-- ==== Sys2Proof/Word.lean ====
section
/-! DEFINITION. The two word sizes of the core (00_scope.md R6): bytes and 16-bit words. -/

namespace Sys2Proof

/-- An 8-bit value (00_scope.md R6, R9: `u8`). -/
abbrev Byte := BitVec 8

/-- A 16-bit value: a register pair, PC, SP or an address (00_scope.md R6, R9: `u16`). -/
abbrev Word := BitVec 16

end Sys2Proof
end

