-- ==== Sys2Proof/Syntax.lean ====
section
/-! DEFINITION. The instructions: the operand fields of 30_encoding.md R132-R137 as types, ONE inductive `Instr` with a
constructor for every row of spec/opcode_table.json, and the families of constructors by their operand fields. -/

namespace Sys2Proof

/-- The seven 8-bit registers the field `r` reaches; F is not among them (30_encoding.md R132). -/
inductive Reg8 where
  | b | c | d | e | h | l | a
deriving DecidableEq, Repr

/-- What the 3-bit field `r` names: a register, or (value 6) the memory byte at HL (30_encoding.md R132). -/
inductive Operand8 where
  | reg (r : Reg8)
  | memHL
deriving DecidableEq, Repr

/-- The pair field `rp` (30_encoding.md R133). -/
inductive Pair where
  | bc | de | hl | sp
deriving DecidableEq, Repr

/-- The pair field `rp2` of PUSH and POP (30_encoding.md R134). -/
inductive StackPair where
  | bc | de | hl | af
deriving DecidableEq, Repr

/-- The condition field `cc` (30_encoding.md R135). -/
inductive Cond where
  | nz | z | nc | c
deriving DecidableEq, Repr

/-- The ALU field (40_engine.md R188). -/
inductive AluOp where
  | add | adc | sub | sbc | and | xor | or | cp
deriving DecidableEq, Repr

/-- The rotate field (40_engine.md R199). -/
inductive RotOp where
  | rlc | rrc | rl | rr | sla | sra | swap | srl
deriving DecidableEq, Repr

/-- One constructor per row of spec/opcode_table.json (30_encoding.md R139, R140, R144). An immediate of the row is an
argument: `n` and `nn` unsigned, `e` the raw displacement byte (R136). STOP has no argument: its second byte is never
fetched (48_cpu_control.md R382). `prefixCb` is the row of the byte 0xCB alone (R138). The rows with an
immediate stand first (Lean's compiled code numbers only the first constructors with data). -/
inductive Instr where
  /-- LD BC,nn: 01 (R250). -/
  | ldBCNn (nn : Word)
  /-- LD B,n: 06 (R221). -/
  | ldBN (n : Byte)
  /-- LD (nn),SP: 08 (R251). -/
  | ldMemNnSP (nn : Word)
  /-- LD C,n: 0E (R221). -/
  | ldCN (n : Byte)
  /-- LD DE,nn: 11 (R250). -/
  | ldDENn (nn : Word)
  /-- LD D,n: 16 (R221). -/
  | ldDN (n : Byte)
  /-- JR e: 18 (R363). -/
  | jrE8 (e : Byte)
  /-- LD E,n: 1E (R221). -/
  | ldEN (n : Byte)
  /-- JR NZ,e: 20 (R364). -/
  | jrNZE8 (e : Byte)
  /-- LD HL,nn: 21 (R250). -/
  | ldHLNn (nn : Word)
  /-- LD H,n: 26 (R221). -/
  | ldHN (n : Byte)
  /-- JR Z,e: 28 (R364). -/
  | jrZE8 (e : Byte)
  /-- LD L,n: 2E (R221). -/
  | ldLN (n : Byte)
  /-- JR NC,e: 30 (R364). -/
  | jrNCE8 (e : Byte)
  /-- LD SP,nn: 31 (R250). -/
  | ldSPNn (nn : Word)
  /-- LD (HL),n: 36 (R224). -/
  | ldMemHLN (n : Byte)
  /-- JR C,e: 38 (R364). -/
  | jrCE8 (e : Byte)
  /-- LD A,n: 3E (R221). -/
  | ldAN (n : Byte)
  /-- JP NZ,nn: C2 (R361). -/
  | jpNZNn (nn : Word)
  /-- JP nn: C3 (R360). -/
  | jpNn (nn : Word)
  /-- CALL NZ,nn: C4 (R366). -/
  | callNZNn (nn : Word)
  /-- ADD A,n: C6 (R272). -/
  | addAN (n : Byte)
  /-- JP Z,nn: CA (R361). -/
  | jpZNn (nn : Word)
  /-- CALL Z,nn: CC (R366). -/
  | callZNn (nn : Word)
  /-- CALL nn: CD (R365). -/
  | callNn (nn : Word)
  /-- ADC A,n: CE (R275). -/
  | adcAN (n : Byte)
  /-- JP NC,nn: D2 (R361). -/
  | jpNCNn (nn : Word)
  /-- CALL NC,nn: D4 (R366). -/
  | callNCNn (nn : Word)
  /-- SUB n: D6 (R278). -/
  | subN (n : Byte)
  /-- JP C,nn: DA (R361). -/
  | jpCNn (nn : Word)
  /-- CALL C,nn: DC (R366). -/
  | callCNn (nn : Word)
  /-- SBC A,n: DE (R281). -/
  | sbcAN (n : Byte)
  /-- LDH (n),A: E0 (R234). -/
  | ldhMemNA (n : Byte)
  /-- AND n: E6 (R284). -/
  | andN (n : Byte)
  /-- ADD SP,e: E8 (R313). -/
  | addSPE8 (e : Byte)
  /-- LD (nn),A: EA (R230). -/
  | ldMemNnA (nn : Word)
  /-- XOR n: EE (R287). -/
  | xorN (n : Byte)
  /-- LDH A,(n): F0 (R233). -/
  | ldhAMemN (n : Byte)
  /-- OR n: F6 (R290). -/
  | orN (n : Byte)
  /-- LD HL,SP+e: F8 (R255). -/
  | ldHLSPE8 (e : Byte)
  /-- LD A,(nn): FA (R229). -/
  | ldAMemNn (nn : Word)
  /-- CP n: FE (R293). -/
  | cpN (n : Byte)
  /-- NOP: 00 (R380). -/
  | nop
  /-- LD (BC),A: 02 (R227). -/
  | ldMemBCA
  /-- INC BC: 03 (R311). -/
  | incBC
  /-- INC B: 04 (R294). -/
  | incB
  /-- DEC B: 05 (R296). -/
  | decB
  /-- RLCA: 07 (R320). -/
  | rlca
  /-- ADD HL,BC: 09 (R310). -/
  | addHLBC
  /-- LD A,(BC): 0A (R225). -/
  | ldAMemBC
  /-- DEC BC: 0B (R312). -/
  | decBC
  /-- INC C: 0C (R294). -/
  | incC
  /-- DEC C: 0D (R296). -/
  | decC
  /-- RRCA: 0F (R321). -/
  | rrca
  /-- STOP: 10 (R382). -/
  | stop
  /-- LD (DE),A: 12 (R228). -/
  | ldMemDEA
  /-- INC DE: 13 (R311). -/
  | incDE
  /-- INC D: 14 (R294). -/
  | incD
  /-- DEC D: 15 (R296). -/
  | decD
  /-- RLA: 17 (R322). -/
  | rla
  /-- ADD HL,DE: 19 (R310). -/
  | addHLDE
  /-- LD A,(DE): 1A (R226). -/
  | ldAMemDE
  /-- DEC DE: 1B (R312). -/
  | decDE
  /-- INC E: 1C (R294). -/
  | incE
  /-- DEC E: 1D (R296). -/
  | decE
  /-- RRA: 1F (R323). -/
  | rra
  /-- LD (HL+),A: 22 (R237). -/
  | ldMemHLIncA
  /-- INC HL: 23 (R311). -/
  | incHL
  /-- INC H: 24 (R294). -/
  | incH
  /-- DEC H: 25 (R296). -/
  | decH
  /-- DAA: 27 (R298). -/
  | daa
  /-- ADD HL,HL: 29 (R310). -/
  | addHLHL
  /-- LD A,(HL+): 2A (R235). -/
  | ldAMemHLInc
  /-- DEC HL: 2B (R312). -/
  | decHL
  /-- INC L: 2C (R294). -/
  | incL
  /-- DEC L: 2D (R296). -/
  | decL
  /-- CPL: 2F (R299). -/
  | cpl
  /-- LD (HL-),A: 32 (R238). -/
  | ldMemHLDecA
  /-- INC SP: 33 (R311). -/
  | incSP
  /-- INC (HL): 34 (R295). -/
  | incMemHL
  /-- DEC (HL): 35 (R297). -/
  | decMemHL
  /-- SCF: 37 (R300). -/
  | scf
  /-- ADD HL,SP: 39 (R310). -/
  | addHLSP
  /-- LD A,(HL-): 3A (R236). -/
  | ldAMemHLDec
  /-- DEC SP: 3B (R312). -/
  | decSP
  /-- INC A: 3C (R294). -/
  | incA
  /-- DEC A: 3D (R296). -/
  | decA
  /-- CCF: 3F (R301). -/
  | ccf
  /-- LD B,B: 40 (R220). -/
  | ldBB
  /-- LD B,C: 41 (R220). -/
  | ldBC
  /-- LD B,D: 42 (R220). -/
  | ldBD
  /-- LD B,E: 43 (R220). -/
  | ldBE
  /-- LD B,H: 44 (R220). -/
  | ldBH
  /-- LD B,L: 45 (R220). -/
  | ldBL
  /-- LD B,(HL): 46 (R222). -/
  | ldBMemHL
  /-- LD B,A: 47 (R220). -/
  | ldBA
  /-- LD C,B: 48 (R220). -/
  | ldCB
  /-- LD C,C: 49 (R220). -/
  | ldCC
  /-- LD C,D: 4A (R220). -/
  | ldCD
  /-- LD C,E: 4B (R220). -/
  | ldCE
  /-- LD C,H: 4C (R220). -/
  | ldCH
  /-- LD C,L: 4D (R220). -/
  | ldCL
  /-- LD C,(HL): 4E (R222). -/
  | ldCMemHL
  /-- LD C,A: 4F (R220). -/
  | ldCA
  /-- LD D,B: 50 (R220). -/
  | ldDB
  /-- LD D,C: 51 (R220). -/
  | ldDC
  /-- LD D,D: 52 (R220). -/
  | ldDD
  /-- LD D,E: 53 (R220). -/
  | ldDE
  /-- LD D,H: 54 (R220). -/
  | ldDH
  /-- LD D,L: 55 (R220). -/
  | ldDL
  /-- LD D,(HL): 56 (R222). -/
  | ldDMemHL
  /-- LD D,A: 57 (R220). -/
  | ldDA
  /-- LD E,B: 58 (R220). -/
  | ldEB
  /-- LD E,C: 59 (R220). -/
  | ldEC
  /-- LD E,D: 5A (R220). -/
  | ldED
  /-- LD E,E: 5B (R220). -/
  | ldEE
  /-- LD E,H: 5C (R220). -/
  | ldEH
  /-- LD E,L: 5D (R220). -/
  | ldEL
  /-- LD E,(HL): 5E (R222). -/
  | ldEMemHL
  /-- LD E,A: 5F (R220). -/
  | ldEA
  /-- LD H,B: 60 (R220). -/
  | ldHB
  /-- LD H,C: 61 (R220). -/
  | ldHC
  /-- LD H,D: 62 (R220). -/
  | ldHD
  /-- LD H,E: 63 (R220). -/
  | ldHE
  /-- LD H,H: 64 (R220). -/
  | ldHH
  /-- LD H,L: 65 (R220). -/
  | ldHL
  /-- LD H,(HL): 66 (R222). -/
  | ldHMemHL
  /-- LD H,A: 67 (R220). -/
  | ldHA
  /-- LD L,B: 68 (R220). -/
  | ldLB
  /-- LD L,C: 69 (R220). -/
  | ldLC
  /-- LD L,D: 6A (R220). -/
  | ldLD
  /-- LD L,E: 6B (R220). -/
  | ldLE
  /-- LD L,H: 6C (R220). -/
  | ldLH
  /-- LD L,L: 6D (R220). -/
  | ldLL
  /-- LD L,(HL): 6E (R222). -/
  | ldLMemHL
  /-- LD L,A: 6F (R220). -/
  | ldLA
  /-- LD (HL),B: 70 (R223). -/
  | ldMemHLB
  /-- LD (HL),C: 71 (R223). -/
  | ldMemHLC
  /-- LD (HL),D: 72 (R223). -/
  | ldMemHLD
  /-- LD (HL),E: 73 (R223). -/
  | ldMemHLE
  /-- LD (HL),H: 74 (R223). -/
  | ldMemHLH
  /-- LD (HL),L: 75 (R223). -/
  | ldMemHLL
  /-- HALT: 76 (R381). -/
  | halt
  /-- LD (HL),A: 77 (R223). -/
  | ldMemHLA
  /-- LD A,B: 78 (R220). -/
  | ldAB
  /-- LD A,C: 79 (R220). -/
  | ldAC
  /-- LD A,D: 7A (R220). -/
  | ldAD
  /-- LD A,E: 7B (R220). -/
  | ldAE
  /-- LD A,H: 7C (R220). -/
  | ldAH
  /-- LD A,L: 7D (R220). -/
  | ldAL
  /-- LD A,(HL): 7E (R222). -/
  | ldAMemHL
  /-- LD A,A: 7F (R220). -/
  | ldAA
  /-- ADD A,B: 80 (R270). -/
  | addAB
  /-- ADD A,C: 81 (R270). -/
  | addAC
  /-- ADD A,D: 82 (R270). -/
  | addAD
  /-- ADD A,E: 83 (R270). -/
  | addAE
  /-- ADD A,H: 84 (R270). -/
  | addAH
  /-- ADD A,L: 85 (R270). -/
  | addAL
  /-- ADD A,(HL): 86 (R271). -/
  | addAMemHL
  /-- ADD A,A: 87 (R270). -/
  | addAA
  /-- ADC A,B: 88 (R273). -/
  | adcAB
  /-- ADC A,C: 89 (R273). -/
  | adcAC
  /-- ADC A,D: 8A (R273). -/
  | adcAD
  /-- ADC A,E: 8B (R273). -/
  | adcAE
  /-- ADC A,H: 8C (R273). -/
  | adcAH
  /-- ADC A,L: 8D (R273). -/
  | adcAL
  /-- ADC A,(HL): 8E (R274). -/
  | adcAMemHL
  /-- ADC A,A: 8F (R273). -/
  | adcAA
  /-- SUB B: 90 (R276). -/
  | subB
  /-- SUB C: 91 (R276). -/
  | subC
  /-- SUB D: 92 (R276). -/
  | subD
  /-- SUB E: 93 (R276). -/
  | subE
  /-- SUB H: 94 (R276). -/
  | subH
  /-- SUB L: 95 (R276). -/
  | subL
  /-- SUB (HL): 96 (R277). -/
  | subMemHL
  /-- SUB A: 97 (R276). -/
  | subA
  /-- SBC A,B: 98 (R279). -/
  | sbcAB
  /-- SBC A,C: 99 (R279). -/
  | sbcAC
  /-- SBC A,D: 9A (R279). -/
  | sbcAD
  /-- SBC A,E: 9B (R279). -/
  | sbcAE
  /-- SBC A,H: 9C (R279). -/
  | sbcAH
  /-- SBC A,L: 9D (R279). -/
  | sbcAL
  /-- SBC A,(HL): 9E (R280). -/
  | sbcAMemHL
  /-- SBC A,A: 9F (R279). -/
  | sbcAA
  /-- AND B: A0 (R282). -/
  | andB
  /-- AND C: A1 (R282). -/
  | andC
  /-- AND D: A2 (R282). -/
  | andD
  /-- AND E: A3 (R282). -/
  | andE
  /-- AND H: A4 (R282). -/
  | andH
  /-- AND L: A5 (R282). -/
  | andL
  /-- AND (HL): A6 (R283). -/
  | andMemHL
  /-- AND A: A7 (R282). -/
  | andA
  /-- XOR B: A8 (R285). -/
  | xorB
  /-- XOR C: A9 (R285). -/
  | xorC
  /-- XOR D: AA (R285). -/
  | xorD
  /-- XOR E: AB (R285). -/
  | xorE
  /-- XOR H: AC (R285). -/
  | xorH
  /-- XOR L: AD (R285). -/
  | xorL
  /-- XOR (HL): AE (R286). -/
  | xorMemHL
  /-- XOR A: AF (R285). -/
  | xorA
  /-- OR B: B0 (R288). -/
  | orB
  /-- OR C: B1 (R288). -/
  | orC
  /-- OR D: B2 (R288). -/
  | orD
  /-- OR E: B3 (R288). -/
  | orE
  /-- OR H: B4 (R288). -/
  | orH
  /-- OR L: B5 (R288). -/
  | orL
  /-- OR (HL): B6 (R289). -/
  | orMemHL
  /-- OR A: B7 (R288). -/
  | orA
  /-- CP B: B8 (R291). -/
  | cpB
  /-- CP C: B9 (R291). -/
  | cpC
  /-- CP D: BA (R291). -/
  | cpD
  /-- CP E: BB (R291). -/
  | cpE
  /-- CP H: BC (R291). -/
  | cpH
  /-- CP L: BD (R291). -/
  | cpL
  /-- CP (HL): BE (R292). -/
  | cpMemHL
  /-- CP A: BF (R291). -/
  | cpA
  /-- RET NZ: C0 (R368). -/
  | retNZ
  /-- POP BC: C1 (R254). -/
  | popBC
  /-- PUSH BC: C5 (R253). -/
  | pushBC
  /-- RST 0x00: C7 (R370). -/
  | rst00
  /-- RET Z: C8 (R368). -/
  | retZ
  /-- RET: C9 (R367). -/
  | ret
  /-- PREFIX CB: CB (R138). -/
  | prefixCb
  /-- RST 0x08: CF (R370). -/
  | rst08
  /-- RET NC: D0 (R368). -/
  | retNC
  /-- POP DE: D1 (R254). -/
  | popDE
  /-- ILLEGAL_D3: D3 (R385). -/
  | illegalD3
  /-- PUSH DE: D5 (R253). -/
  | pushDE
  /-- RST 0x10: D7 (R370). -/
  | rst10
  /-- RET C: D8 (R368). -/
  | retC
  /-- RETI: D9 (R369). -/
  | reti
  /-- ILLEGAL_DB: DB (R385). -/
  | illegalDB
  /-- ILLEGAL_DD: DD (R385). -/
  | illegalDD
  /-- RST 0x18: DF (R370). -/
  | rst18
  /-- POP HL: E1 (R254). -/
  | popHL
  /-- LD (C),A: E2 (R232). -/
  | ldMemCA
  /-- ILLEGAL_E3: E3 (R385). -/
  | illegalE3
  /-- ILLEGAL_E4: E4 (R385). -/
  | illegalE4
  /-- PUSH HL: E5 (R253). -/
  | pushHL
  /-- RST 0x20: E7 (R370). -/
  | rst20
  /-- JP HL: E9 (R362). -/
  | jpHL
  /-- ILLEGAL_EB: EB (R385). -/
  | illegalEB
  /-- ILLEGAL_EC: EC (R385). -/
  | illegalEC
  /-- ILLEGAL_ED: ED (R385). -/
  | illegalED
  /-- RST 0x28: EF (R370). -/
  | rst28
  /-- POP AF: F1 (R254). -/
  | popAF
  /-- LD A,(C): F2 (R231). -/
  | ldAMemC
  /-- DI: F3 (R383). -/
  | di
  /-- ILLEGAL_F4: F4 (R385). -/
  | illegalF4
  /-- PUSH AF: F5 (R253). -/
  | pushAF
  /-- RST 0x30: F7 (R370). -/
  | rst30
  /-- LD SP,HL: F9 (R252). -/
  | ldSPHL
  /-- EI: FB (R384). -/
  | ei
  /-- ILLEGAL_FC: FC (R385). -/
  | illegalFC
  /-- ILLEGAL_FD: FD (R385). -/
  | illegalFD
  /-- RST 0x38: FF (R370). -/
  | rst38
  /-- RLC B: CB 00 (R324). -/
  | rlcB
  /-- RLC C: CB 01 (R324). -/
  | rlcC
  /-- RLC D: CB 02 (R324). -/
  | rlcD
  /-- RLC E: CB 03 (R324). -/
  | rlcE
  /-- RLC H: CB 04 (R324). -/
  | rlcH
  /-- RLC L: CB 05 (R324). -/
  | rlcL
  /-- RLC (HL): CB 06 (R325). -/
  | rlcMemHL
  /-- RLC A: CB 07 (R324). -/
  | rlcA
  /-- RRC B: CB 08 (R326). -/
  | rrcB
  /-- RRC C: CB 09 (R326). -/
  | rrcC
  /-- RRC D: CB 0A (R326). -/
  | rrcD
  /-- RRC E: CB 0B (R326). -/
  | rrcE
  /-- RRC H: CB 0C (R326). -/
  | rrcH
  /-- RRC L: CB 0D (R326). -/
  | rrcL
  /-- RRC (HL): CB 0E (R327). -/
  | rrcMemHL
  /-- RRC A: CB 0F (R326). -/
  | rrcA
  /-- RL B: CB 10 (R328). -/
  | rlB
  /-- RL C: CB 11 (R328). -/
  | rlC
  /-- RL D: CB 12 (R328). -/
  | rlD
  /-- RL E: CB 13 (R328). -/
  | rlE
  /-- RL H: CB 14 (R328). -/
  | rlH
  /-- RL L: CB 15 (R328). -/
  | rlL
  /-- RL (HL): CB 16 (R329). -/
  | rlMemHL
  /-- RL A: CB 17 (R328). -/
  | rlA
  /-- RR B: CB 18 (R330). -/
  | rrB
  /-- RR C: CB 19 (R330). -/
  | rrC
  /-- RR D: CB 1A (R330). -/
  | rrD
  /-- RR E: CB 1B (R330). -/
  | rrE
  /-- RR H: CB 1C (R330). -/
  | rrH
  /-- RR L: CB 1D (R330). -/
  | rrL
  /-- RR (HL): CB 1E (R331). -/
  | rrMemHL
  /-- RR A: CB 1F (R330). -/
  | rrA
  /-- SLA B: CB 20 (R332). -/
  | slaB
  /-- SLA C: CB 21 (R332). -/
  | slaC
  /-- SLA D: CB 22 (R332). -/
  | slaD
  /-- SLA E: CB 23 (R332). -/
  | slaE
  /-- SLA H: CB 24 (R332). -/
  | slaH
  /-- SLA L: CB 25 (R332). -/
  | slaL
  /-- SLA (HL): CB 26 (R333). -/
  | slaMemHL
  /-- SLA A: CB 27 (R332). -/
  | slaA
  /-- SRA B: CB 28 (R334). -/
  | sraB
  /-- SRA C: CB 29 (R334). -/
  | sraC
  /-- SRA D: CB 2A (R334). -/
  | sraD
  /-- SRA E: CB 2B (R334). -/
  | sraE
  /-- SRA H: CB 2C (R334). -/
  | sraH
  /-- SRA L: CB 2D (R334). -/
  | sraL
  /-- SRA (HL): CB 2E (R335). -/
  | sraMemHL
  /-- SRA A: CB 2F (R334). -/
  | sraA
  /-- SWAP B: CB 30 (R336). -/
  | swapB
  /-- SWAP C: CB 31 (R336). -/
  | swapC
  /-- SWAP D: CB 32 (R336). -/
  | swapD
  /-- SWAP E: CB 33 (R336). -/
  | swapE
  /-- SWAP H: CB 34 (R336). -/
  | swapH
  /-- SWAP L: CB 35 (R336). -/
  | swapL
  /-- SWAP (HL): CB 36 (R337). -/
  | swapMemHL
  /-- SWAP A: CB 37 (R336). -/
  | swapA
  /-- SRL B: CB 38 (R338). -/
  | srlB
  /-- SRL C: CB 39 (R338). -/
  | srlC
  /-- SRL D: CB 3A (R338). -/
  | srlD
  /-- SRL E: CB 3B (R338). -/
  | srlE
  /-- SRL H: CB 3C (R338). -/
  | srlH
  /-- SRL L: CB 3D (R338). -/
  | srlL
  /-- SRL (HL): CB 3E (R339). -/
  | srlMemHL
  /-- SRL A: CB 3F (R338). -/
  | srlA
  /-- BIT 0,B: CB 40 (R350). -/
  | bit0B
  /-- BIT 0,C: CB 41 (R350). -/
  | bit0C
  /-- BIT 0,D: CB 42 (R350). -/
  | bit0D
  /-- BIT 0,E: CB 43 (R350). -/
  | bit0E
  /-- BIT 0,H: CB 44 (R350). -/
  | bit0H
  /-- BIT 0,L: CB 45 (R350). -/
  | bit0L
  /-- BIT 0,(HL): CB 46 (R351). -/
  | bit0MemHL
  /-- BIT 0,A: CB 47 (R350). -/
  | bit0A
  /-- BIT 1,B: CB 48 (R350). -/
  | bit1B
  /-- BIT 1,C: CB 49 (R350). -/
  | bit1C
  /-- BIT 1,D: CB 4A (R350). -/
  | bit1D
  /-- BIT 1,E: CB 4B (R350). -/
  | bit1E
  /-- BIT 1,H: CB 4C (R350). -/
  | bit1H
  /-- BIT 1,L: CB 4D (R350). -/
  | bit1L
  /-- BIT 1,(HL): CB 4E (R351). -/
  | bit1MemHL
  /-- BIT 1,A: CB 4F (R350). -/
  | bit1A
  /-- BIT 2,B: CB 50 (R350). -/
  | bit2B
  /-- BIT 2,C: CB 51 (R350). -/
  | bit2C
  /-- BIT 2,D: CB 52 (R350). -/
  | bit2D
  /-- BIT 2,E: CB 53 (R350). -/
  | bit2E
  /-- BIT 2,H: CB 54 (R350). -/
  | bit2H
  /-- BIT 2,L: CB 55 (R350). -/
  | bit2L
  /-- BIT 2,(HL): CB 56 (R351). -/
  | bit2MemHL
  /-- BIT 2,A: CB 57 (R350). -/
  | bit2A
  /-- BIT 3,B: CB 58 (R350). -/
  | bit3B
  /-- BIT 3,C: CB 59 (R350). -/
  | bit3C
  /-- BIT 3,D: CB 5A (R350). -/
  | bit3D
  /-- BIT 3,E: CB 5B (R350). -/
  | bit3E
  /-- BIT 3,H: CB 5C (R350). -/
  | bit3H
  /-- BIT 3,L: CB 5D (R350). -/
  | bit3L
  /-- BIT 3,(HL): CB 5E (R351). -/
  | bit3MemHL
  /-- BIT 3,A: CB 5F (R350). -/
  | bit3A
  /-- BIT 4,B: CB 60 (R350). -/
  | bit4B
  /-- BIT 4,C: CB 61 (R350). -/
  | bit4C
  /-- BIT 4,D: CB 62 (R350). -/
  | bit4D
  /-- BIT 4,E: CB 63 (R350). -/
  | bit4E
  /-- BIT 4,H: CB 64 (R350). -/
  | bit4H
  /-- BIT 4,L: CB 65 (R350). -/
  | bit4L
  /-- BIT 4,(HL): CB 66 (R351). -/
  | bit4MemHL
  /-- BIT 4,A: CB 67 (R350). -/
  | bit4A
  /-- BIT 5,B: CB 68 (R350). -/
  | bit5B
  /-- BIT 5,C: CB 69 (R350). -/
  | bit5C
  /-- BIT 5,D: CB 6A (R350). -/
  | bit5D
  /-- BIT 5,E: CB 6B (R350). -/
  | bit5E
  /-- BIT 5,H: CB 6C (R350). -/
  | bit5H
  /-- BIT 5,L: CB 6D (R350). -/
  | bit5L
  /-- BIT 5,(HL): CB 6E (R351). -/
  | bit5MemHL
  /-- BIT 5,A: CB 6F (R350). -/
  | bit5A
  /-- BIT 6,B: CB 70 (R350). -/
  | bit6B
  /-- BIT 6,C: CB 71 (R350). -/
  | bit6C
  /-- BIT 6,D: CB 72 (R350). -/
  | bit6D
  /-- BIT 6,E: CB 73 (R350). -/
  | bit6E
  /-- BIT 6,H: CB 74 (R350). -/
  | bit6H
  /-- BIT 6,L: CB 75 (R350). -/
  | bit6L
  /-- BIT 6,(HL): CB 76 (R351). -/
  | bit6MemHL
  /-- BIT 6,A: CB 77 (R350). -/
  | bit6A
  /-- BIT 7,B: CB 78 (R350). -/
  | bit7B
  /-- BIT 7,C: CB 79 (R350). -/
  | bit7C
  /-- BIT 7,D: CB 7A (R350). -/
  | bit7D
  /-- BIT 7,E: CB 7B (R350). -/
  | bit7E
  /-- BIT 7,H: CB 7C (R350). -/
  | bit7H
  /-- BIT 7,L: CB 7D (R350). -/
  | bit7L
  /-- BIT 7,(HL): CB 7E (R351). -/
  | bit7MemHL
  /-- BIT 7,A: CB 7F (R350). -/
  | bit7A
  /-- RES 0,B: CB 80 (R352). -/
  | res0B
  /-- RES 0,C: CB 81 (R352). -/
  | res0C
  /-- RES 0,D: CB 82 (R352). -/
  | res0D
  /-- RES 0,E: CB 83 (R352). -/
  | res0E
  /-- RES 0,H: CB 84 (R352). -/
  | res0H
  /-- RES 0,L: CB 85 (R352). -/
  | res0L
  /-- RES 0,(HL): CB 86 (R353). -/
  | res0MemHL
  /-- RES 0,A: CB 87 (R352). -/
  | res0A
  /-- RES 1,B: CB 88 (R352). -/
  | res1B
  /-- RES 1,C: CB 89 (R352). -/
  | res1C
  /-- RES 1,D: CB 8A (R352). -/
  | res1D
  /-- RES 1,E: CB 8B (R352). -/
  | res1E
  /-- RES 1,H: CB 8C (R352). -/
  | res1H
  /-- RES 1,L: CB 8D (R352). -/
  | res1L
  /-- RES 1,(HL): CB 8E (R353). -/
  | res1MemHL
  /-- RES 1,A: CB 8F (R352). -/
  | res1A
  /-- RES 2,B: CB 90 (R352). -/
  | res2B
  /-- RES 2,C: CB 91 (R352). -/
  | res2C
  /-- RES 2,D: CB 92 (R352). -/
  | res2D
  /-- RES 2,E: CB 93 (R352). -/
  | res2E
  /-- RES 2,H: CB 94 (R352). -/
  | res2H
  /-- RES 2,L: CB 95 (R352). -/
  | res2L
  /-- RES 2,(HL): CB 96 (R353). -/
  | res2MemHL
  /-- RES 2,A: CB 97 (R352). -/
  | res2A
  /-- RES 3,B: CB 98 (R352). -/
  | res3B
  /-- RES 3,C: CB 99 (R352). -/
  | res3C
  /-- RES 3,D: CB 9A (R352). -/
  | res3D
  /-- RES 3,E: CB 9B (R352). -/
  | res3E
  /-- RES 3,H: CB 9C (R352). -/
  | res3H
  /-- RES 3,L: CB 9D (R352). -/
  | res3L
  /-- RES 3,(HL): CB 9E (R353). -/
  | res3MemHL
  /-- RES 3,A: CB 9F (R352). -/
  | res3A
  /-- RES 4,B: CB A0 (R352). -/
  | res4B
  /-- RES 4,C: CB A1 (R352). -/
  | res4C
  /-- RES 4,D: CB A2 (R352). -/
  | res4D
  /-- RES 4,E: CB A3 (R352). -/
  | res4E
  /-- RES 4,H: CB A4 (R352). -/
  | res4H
  /-- RES 4,L: CB A5 (R352). -/
  | res4L
  /-- RES 4,(HL): CB A6 (R353). -/
  | res4MemHL
  /-- RES 4,A: CB A7 (R352). -/
  | res4A
  /-- RES 5,B: CB A8 (R352). -/
  | res5B
  /-- RES 5,C: CB A9 (R352). -/
  | res5C
  /-- RES 5,D: CB AA (R352). -/
  | res5D
  /-- RES 5,E: CB AB (R352). -/
  | res5E
  /-- RES 5,H: CB AC (R352). -/
  | res5H
  /-- RES 5,L: CB AD (R352). -/
  | res5L
  /-- RES 5,(HL): CB AE (R353). -/
  | res5MemHL
  /-- RES 5,A: CB AF (R352). -/
  | res5A
  /-- RES 6,B: CB B0 (R352). -/
  | res6B
  /-- RES 6,C: CB B1 (R352). -/
  | res6C
  /-- RES 6,D: CB B2 (R352). -/
  | res6D
  /-- RES 6,E: CB B3 (R352). -/
  | res6E
  /-- RES 6,H: CB B4 (R352). -/
  | res6H
  /-- RES 6,L: CB B5 (R352). -/
  | res6L
  /-- RES 6,(HL): CB B6 (R353). -/
  | res6MemHL
  /-- RES 6,A: CB B7 (R352). -/
  | res6A
  /-- RES 7,B: CB B8 (R352). -/
  | res7B
  /-- RES 7,C: CB B9 (R352). -/
  | res7C
  /-- RES 7,D: CB BA (R352). -/
  | res7D
  /-- RES 7,E: CB BB (R352). -/
  | res7E
  /-- RES 7,H: CB BC (R352). -/
  | res7H
  /-- RES 7,L: CB BD (R352). -/
  | res7L
  /-- RES 7,(HL): CB BE (R353). -/
  | res7MemHL
  /-- RES 7,A: CB BF (R352). -/
  | res7A
  /-- SET 0,B: CB C0 (R354). -/
  | set0B
  /-- SET 0,C: CB C1 (R354). -/
  | set0C
  /-- SET 0,D: CB C2 (R354). -/
  | set0D
  /-- SET 0,E: CB C3 (R354). -/
  | set0E
  /-- SET 0,H: CB C4 (R354). -/
  | set0H
  /-- SET 0,L: CB C5 (R354). -/
  | set0L
  /-- SET 0,(HL): CB C6 (R355). -/
  | set0MemHL
  /-- SET 0,A: CB C7 (R354). -/
  | set0A
  /-- SET 1,B: CB C8 (R354). -/
  | set1B
  /-- SET 1,C: CB C9 (R354). -/
  | set1C
  /-- SET 1,D: CB CA (R354). -/
  | set1D
  /-- SET 1,E: CB CB (R354). -/
  | set1E
  /-- SET 1,H: CB CC (R354). -/
  | set1H
  /-- SET 1,L: CB CD (R354). -/
  | set1L
  /-- SET 1,(HL): CB CE (R355). -/
  | set1MemHL
  /-- SET 1,A: CB CF (R354). -/
  | set1A
  /-- SET 2,B: CB D0 (R354). -/
  | set2B
  /-- SET 2,C: CB D1 (R354). -/
  | set2C
  /-- SET 2,D: CB D2 (R354). -/
  | set2D
  /-- SET 2,E: CB D3 (R354). -/
  | set2E
  /-- SET 2,H: CB D4 (R354). -/
  | set2H
  /-- SET 2,L: CB D5 (R354). -/
  | set2L
  /-- SET 2,(HL): CB D6 (R355). -/
  | set2MemHL
  /-- SET 2,A: CB D7 (R354). -/
  | set2A
  /-- SET 3,B: CB D8 (R354). -/
  | set3B
  /-- SET 3,C: CB D9 (R354). -/
  | set3C
  /-- SET 3,D: CB DA (R354). -/
  | set3D
  /-- SET 3,E: CB DB (R354). -/
  | set3E
  /-- SET 3,H: CB DC (R354). -/
  | set3H
  /-- SET 3,L: CB DD (R354). -/
  | set3L
  /-- SET 3,(HL): CB DE (R355). -/
  | set3MemHL
  /-- SET 3,A: CB DF (R354). -/
  | set3A
  /-- SET 4,B: CB E0 (R354). -/
  | set4B
  /-- SET 4,C: CB E1 (R354). -/
  | set4C
  /-- SET 4,D: CB E2 (R354). -/
  | set4D
  /-- SET 4,E: CB E3 (R354). -/
  | set4E
  /-- SET 4,H: CB E4 (R354). -/
  | set4H
  /-- SET 4,L: CB E5 (R354). -/
  | set4L
  /-- SET 4,(HL): CB E6 (R355). -/
  | set4MemHL
  /-- SET 4,A: CB E7 (R354). -/
  | set4A
  /-- SET 5,B: CB E8 (R354). -/
  | set5B
  /-- SET 5,C: CB E9 (R354). -/
  | set5C
  /-- SET 5,D: CB EA (R354). -/
  | set5D
  /-- SET 5,E: CB EB (R354). -/
  | set5E
  /-- SET 5,H: CB EC (R354). -/
  | set5H
  /-- SET 5,L: CB ED (R354). -/
  | set5L
  /-- SET 5,(HL): CB EE (R355). -/
  | set5MemHL
  /-- SET 5,A: CB EF (R354). -/
  | set5A
  /-- SET 6,B: CB F0 (R354). -/
  | set6B
  /-- SET 6,C: CB F1 (R354). -/
  | set6C
  /-- SET 6,D: CB F2 (R354). -/
  | set6D
  /-- SET 6,E: CB F3 (R354). -/
  | set6E
  /-- SET 6,H: CB F4 (R354). -/
  | set6H
  /-- SET 6,L: CB F5 (R354). -/
  | set6L
  /-- SET 6,(HL): CB F6 (R355). -/
  | set6MemHL
  /-- SET 6,A: CB F7 (R354). -/
  | set6A
  /-- SET 7,B: CB F8 (R354). -/
  | set7B
  /-- SET 7,C: CB F9 (R354). -/
  | set7C
  /-- SET 7,D: CB FA (R354). -/
  | set7D
  /-- SET 7,E: CB FB (R354). -/
  | set7E
  /-- SET 7,H: CB FC (R354). -/
  | set7H
  /-- SET 7,L: CB FD (R354). -/
  | set7L
  /-- SET 7,(HL): CB FE (R355). -/
  | set7MemHL
  /-- SET 7,A: CB FF (R354). -/
  | set7A
deriving DecidableEq, Repr

namespace Instr

/-- LD r,r' by destination and source (41_load8.md R220). -/
def ldReg : Reg8 → Reg8 → Instr
  | .b, .b => .ldBB
  | .b, .c => .ldBC
  | .b, .d => .ldBD
  | .b, .e => .ldBE
  | .b, .h => .ldBH
  | .b, .l => .ldBL
  | .b, .a => .ldBA
  | .c, .b => .ldCB
  | .c, .c => .ldCC
  | .c, .d => .ldCD
  | .c, .e => .ldCE
  | .c, .h => .ldCH
  | .c, .l => .ldCL
  | .c, .a => .ldCA
  | .d, .b => .ldDB
  | .d, .c => .ldDC
  | .d, .d => .ldDD
  | .d, .e => .ldDE
  | .d, .h => .ldDH
  | .d, .l => .ldDL
  | .d, .a => .ldDA
  | .e, .b => .ldEB
  | .e, .c => .ldEC
  | .e, .d => .ldED
  | .e, .e => .ldEE
  | .e, .h => .ldEH
  | .e, .l => .ldEL
  | .e, .a => .ldEA
  | .h, .b => .ldHB
  | .h, .c => .ldHC
  | .h, .d => .ldHD
  | .h, .e => .ldHE
  | .h, .h => .ldHH
  | .h, .l => .ldHL
  | .h, .a => .ldHA
  | .l, .b => .ldLB
  | .l, .c => .ldLC
  | .l, .d => .ldLD
  | .l, .e => .ldLE
  | .l, .h => .ldLH
  | .l, .l => .ldLL
  | .l, .a => .ldLA
  | .a, .b => .ldAB
  | .a, .c => .ldAC
  | .a, .d => .ldAD
  | .a, .e => .ldAE
  | .a, .h => .ldAH
  | .a, .l => .ldAL
  | .a, .a => .ldAA

/-- LD r,n (41_load8.md R221). -/
def ldRegN : Reg8 → Byte → Instr
  | .b, n => .ldBN n
  | .c, n => .ldCN n
  | .d, n => .ldDN n
  | .e, n => .ldEN n
  | .h, n => .ldHN n
  | .l, n => .ldLN n
  | .a, n => .ldAN n

/-- LD r,(HL) (41_load8.md R222). -/
def ldRegMemHL : Reg8 → Instr
  | .b => .ldBMemHL
  | .c => .ldCMemHL
  | .d => .ldDMemHL
  | .e => .ldEMemHL
  | .h => .ldHMemHL
  | .l => .ldLMemHL
  | .a => .ldAMemHL

/-- LD (HL),r (41_load8.md R223). -/
def ldMemHLReg : Reg8 → Instr
  | .b => .ldMemHLB
  | .c => .ldMemHLC
  | .d => .ldMemHLD
  | .e => .ldMemHLE
  | .h => .ldMemHLH
  | .l => .ldMemHLL
  | .a => .ldMemHLA

/-- INC r (43_alu8.md R294). -/
def incReg : Reg8 → Instr
  | .b => .incB
  | .c => .incC
  | .d => .incD
  | .e => .incE
  | .h => .incH
  | .l => .incL
  | .a => .incA

/-- DEC r (43_alu8.md R296). -/
def decReg : Reg8 → Instr
  | .b => .decB
  | .c => .decC
  | .d => .decD
  | .e => .decE
  | .h => .decH
  | .l => .decL
  | .a => .decA

/-- The eight ALU operations on a register (43_alu8.md R270, R273, R276, R279, R282, R285, R288, R291). -/
def aluReg : AluOp → Reg8 → Instr
  | .add, .b => .addAB
  | .add, .c => .addAC
  | .add, .d => .addAD
  | .add, .e => .addAE
  | .add, .h => .addAH
  | .add, .l => .addAL
  | .add, .a => .addAA
  | .adc, .b => .adcAB
  | .adc, .c => .adcAC
  | .adc, .d => .adcAD
  | .adc, .e => .adcAE
  | .adc, .h => .adcAH
  | .adc, .l => .adcAL
  | .adc, .a => .adcAA
  | .sub, .b => .subB
  | .sub, .c => .subC
  | .sub, .d => .subD
  | .sub, .e => .subE
  | .sub, .h => .subH
  | .sub, .l => .subL
  | .sub, .a => .subA
  | .sbc, .b => .sbcAB
  | .sbc, .c => .sbcAC
  | .sbc, .d => .sbcAD
  | .sbc, .e => .sbcAE
  | .sbc, .h => .sbcAH
  | .sbc, .l => .sbcAL
  | .sbc, .a => .sbcAA
  | .and, .b => .andB
  | .and, .c => .andC
  | .and, .d => .andD
  | .and, .e => .andE
  | .and, .h => .andH
  | .and, .l => .andL
  | .and, .a => .andA
  | .xor, .b => .xorB
  | .xor, .c => .xorC
  | .xor, .d => .xorD
  | .xor, .e => .xorE
  | .xor, .h => .xorH
  | .xor, .l => .xorL
  | .xor, .a => .xorA
  | .or, .b => .orB
  | .or, .c => .orC
  | .or, .d => .orD
  | .or, .e => .orE
  | .or, .h => .orH
  | .or, .l => .orL
  | .or, .a => .orA
  | .cp, .b => .cpB
  | .cp, .c => .cpC
  | .cp, .d => .cpD
  | .cp, .e => .cpE
  | .cp, .h => .cpH
  | .cp, .l => .cpL
  | .cp, .a => .cpA

/-- The eight ALU operations on the byte at HL (43_alu8.md R271, R274, R277, R280, R283, R286, R289, R292). -/
def aluMemHL : AluOp → Instr
  | .add => .addAMemHL
  | .adc => .adcAMemHL
  | .sub => .subMemHL
  | .sbc => .sbcAMemHL
  | .and => .andMemHL
  | .xor => .xorMemHL
  | .or => .orMemHL
  | .cp => .cpMemHL

/-- The eight ALU operations on an immediate (43_alu8.md R272, R275, R278, R281, R284, R287, R290, R293). -/
def aluN : AluOp → Byte → Instr
  | .add, n => .addAN n
  | .adc, n => .adcAN n
  | .sub, n => .subN n
  | .sbc, n => .sbcAN n
  | .and, n => .andN n
  | .xor, n => .xorN n
  | .or, n => .orN n
  | .cp, n => .cpN n

/-- LD rr,nn (42_load16_stack.md R250). -/
def ldPairNn : Pair → Word → Instr
  | .bc, nn => .ldBCNn nn
  | .de, nn => .ldDENn nn
  | .hl, nn => .ldHLNn nn
  | .sp, nn => .ldSPNn nn

/-- ADD HL,rr (44_alu16.md R310). -/
def addHL : Pair → Instr
  | .bc => .addHLBC
  | .de => .addHLDE
  | .hl => .addHLHL
  | .sp => .addHLSP

/-- INC rr (44_alu16.md R311). -/
def incPair : Pair → Instr
  | .bc => .incBC
  | .de => .incDE
  | .hl => .incHL
  | .sp => .incSP

/-- DEC rr (44_alu16.md R312). -/
def decPair : Pair → Instr
  | .bc => .decBC
  | .de => .decDE
  | .hl => .decHL
  | .sp => .decSP

/-- PUSH rr (42_load16_stack.md R253). -/
def push : StackPair → Instr
  | .bc => .pushBC
  | .de => .pushDE
  | .hl => .pushHL
  | .af => .pushAF

/-- POP rr (42_load16_stack.md R254). -/
def pop : StackPair → Instr
  | .bc => .popBC
  | .de => .popDE
  | .hl => .popHL
  | .af => .popAF

/-- JP cc,nn (47_control.md R361). -/
def jpCond : Cond → Word → Instr
  | .nz, nn => .jpNZNn nn
  | .z, nn => .jpZNn nn
  | .nc, nn => .jpNCNn nn
  | .c, nn => .jpCNn nn

/-- JR cc,e (47_control.md R364). -/
def jrCond : Cond → Byte → Instr
  | .nz, e => .jrNZE8 e
  | .z, e => .jrZE8 e
  | .nc, e => .jrNCE8 e
  | .c, e => .jrCE8 e

/-- CALL cc,nn (47_control.md R366). -/
def callCond : Cond → Word → Instr
  | .nz, nn => .callNZNn nn
  | .z, nn => .callZNn nn
  | .nc, nn => .callNCNn nn
  | .c, nn => .callCNn nn

/-- RET cc (47_control.md R368). -/
def retCond : Cond → Instr
  | .nz => .retNZ
  | .z => .retZ
  | .nc => .retNC
  | .c => .retC

/-- RST t (47_control.md R370). -/
def rst : Fin 8 → Instr
  | 0 => .rst00
  | 1 => .rst08
  | 2 => .rst10
  | 3 => .rst18
  | 4 => .rst20
  | 5 => .rst28
  | 6 => .rst30
  | 7 => .rst38

/-- The CB rotates, shifts and SWAP on a register (45_rotate_shift.md R324, R326, R328, R330, R332, R334, R336, R338). -/
def rotReg : RotOp → Reg8 → Instr
  | .rlc, .b => .rlcB
  | .rlc, .c => .rlcC
  | .rlc, .d => .rlcD
  | .rlc, .e => .rlcE
  | .rlc, .h => .rlcH
  | .rlc, .l => .rlcL
  | .rlc, .a => .rlcA
  | .rrc, .b => .rrcB
  | .rrc, .c => .rrcC
  | .rrc, .d => .rrcD
  | .rrc, .e => .rrcE
  | .rrc, .h => .rrcH
  | .rrc, .l => .rrcL
  | .rrc, .a => .rrcA
  | .rl, .b => .rlB
  | .rl, .c => .rlC
  | .rl, .d => .rlD
  | .rl, .e => .rlE
  | .rl, .h => .rlH
  | .rl, .l => .rlL
  | .rl, .a => .rlA
  | .rr, .b => .rrB
  | .rr, .c => .rrC
  | .rr, .d => .rrD
  | .rr, .e => .rrE
  | .rr, .h => .rrH
  | .rr, .l => .rrL
  | .rr, .a => .rrA
  | .sla, .b => .slaB
  | .sla, .c => .slaC
  | .sla, .d => .slaD
  | .sla, .e => .slaE
  | .sla, .h => .slaH
  | .sla, .l => .slaL
  | .sla, .a => .slaA
  | .sra, .b => .sraB
  | .sra, .c => .sraC
  | .sra, .d => .sraD
  | .sra, .e => .sraE
  | .sra, .h => .sraH
  | .sra, .l => .sraL
  | .sra, .a => .sraA
  | .swap, .b => .swapB
  | .swap, .c => .swapC
  | .swap, .d => .swapD
  | .swap, .e => .swapE
  | .swap, .h => .swapH
  | .swap, .l => .swapL
  | .swap, .a => .swapA
  | .srl, .b => .srlB
  | .srl, .c => .srlC
  | .srl, .d => .srlD
  | .srl, .e => .srlE
  | .srl, .h => .srlH
  | .srl, .l => .srlL
  | .srl, .a => .srlA

/-- The CB rotates, shifts and SWAP on the byte at HL (45_rotate_shift.md R325, R327, R329, R331, R333, R335, R337, R339). -/
def rotMemHL : RotOp → Instr
  | .rlc => .rlcMemHL
  | .rrc => .rrcMemHL
  | .rl => .rlMemHL
  | .rr => .rrMemHL
  | .sla => .slaMemHL
  | .sra => .sraMemHL
  | .swap => .swapMemHL
  | .srl => .srlMemHL

/-- BIT b,r (46_bit.md R350). -/
def bitReg : Fin 8 → Reg8 → Instr
  | 0, .b => .bit0B
  | 0, .c => .bit0C
  | 0, .d => .bit0D
  | 0, .e => .bit0E
  | 0, .h => .bit0H
  | 0, .l => .bit0L
  | 0, .a => .bit0A
  | 1, .b => .bit1B
  | 1, .c => .bit1C
  | 1, .d => .bit1D
  | 1, .e => .bit1E
  | 1, .h => .bit1H
  | 1, .l => .bit1L
  | 1, .a => .bit1A
  | 2, .b => .bit2B
  | 2, .c => .bit2C
  | 2, .d => .bit2D
  | 2, .e => .bit2E
  | 2, .h => .bit2H
  | 2, .l => .bit2L
  | 2, .a => .bit2A
  | 3, .b => .bit3B
  | 3, .c => .bit3C
  | 3, .d => .bit3D
  | 3, .e => .bit3E
  | 3, .h => .bit3H
  | 3, .l => .bit3L
  | 3, .a => .bit3A
  | 4, .b => .bit4B
  | 4, .c => .bit4C
  | 4, .d => .bit4D
  | 4, .e => .bit4E
  | 4, .h => .bit4H
  | 4, .l => .bit4L
  | 4, .a => .bit4A
  | 5, .b => .bit5B
  | 5, .c => .bit5C
  | 5, .d => .bit5D
  | 5, .e => .bit5E
  | 5, .h => .bit5H
  | 5, .l => .bit5L
  | 5, .a => .bit5A
  | 6, .b => .bit6B
  | 6, .c => .bit6C
  | 6, .d => .bit6D
  | 6, .e => .bit6E
  | 6, .h => .bit6H
  | 6, .l => .bit6L
  | 6, .a => .bit6A
  | 7, .b => .bit7B
  | 7, .c => .bit7C
  | 7, .d => .bit7D
  | 7, .e => .bit7E
  | 7, .h => .bit7H
  | 7, .l => .bit7L
  | 7, .a => .bit7A

/-- BIT b,(HL) (46_bit.md R351). -/
def bitMemHL : Fin 8 → Instr
  | 0 => .bit0MemHL
  | 1 => .bit1MemHL
  | 2 => .bit2MemHL
  | 3 => .bit3MemHL
  | 4 => .bit4MemHL
  | 5 => .bit5MemHL
  | 6 => .bit6MemHL
  | 7 => .bit7MemHL

/-- RES b,r (46_bit.md R352). -/
def resReg : Fin 8 → Reg8 → Instr
  | 0, .b => .res0B
  | 0, .c => .res0C
  | 0, .d => .res0D
  | 0, .e => .res0E
  | 0, .h => .res0H
  | 0, .l => .res0L
  | 0, .a => .res0A
  | 1, .b => .res1B
  | 1, .c => .res1C
  | 1, .d => .res1D
  | 1, .e => .res1E
  | 1, .h => .res1H
  | 1, .l => .res1L
  | 1, .a => .res1A
  | 2, .b => .res2B
  | 2, .c => .res2C
  | 2, .d => .res2D
  | 2, .e => .res2E
  | 2, .h => .res2H
  | 2, .l => .res2L
  | 2, .a => .res2A
  | 3, .b => .res3B
  | 3, .c => .res3C
  | 3, .d => .res3D
  | 3, .e => .res3E
  | 3, .h => .res3H
  | 3, .l => .res3L
  | 3, .a => .res3A
  | 4, .b => .res4B
  | 4, .c => .res4C
  | 4, .d => .res4D
  | 4, .e => .res4E
  | 4, .h => .res4H
  | 4, .l => .res4L
  | 4, .a => .res4A
  | 5, .b => .res5B
  | 5, .c => .res5C
  | 5, .d => .res5D
  | 5, .e => .res5E
  | 5, .h => .res5H
  | 5, .l => .res5L
  | 5, .a => .res5A
  | 6, .b => .res6B
  | 6, .c => .res6C
  | 6, .d => .res6D
  | 6, .e => .res6E
  | 6, .h => .res6H
  | 6, .l => .res6L
  | 6, .a => .res6A
  | 7, .b => .res7B
  | 7, .c => .res7C
  | 7, .d => .res7D
  | 7, .e => .res7E
  | 7, .h => .res7H
  | 7, .l => .res7L
  | 7, .a => .res7A

/-- RES b,(HL) (46_bit.md R353). -/
def resMemHL : Fin 8 → Instr
  | 0 => .res0MemHL
  | 1 => .res1MemHL
  | 2 => .res2MemHL
  | 3 => .res3MemHL
  | 4 => .res4MemHL
  | 5 => .res5MemHL
  | 6 => .res6MemHL
  | 7 => .res7MemHL

/-- SET b,r (46_bit.md R354). -/
def setReg : Fin 8 → Reg8 → Instr
  | 0, .b => .set0B
  | 0, .c => .set0C
  | 0, .d => .set0D
  | 0, .e => .set0E
  | 0, .h => .set0H
  | 0, .l => .set0L
  | 0, .a => .set0A
  | 1, .b => .set1B
  | 1, .c => .set1C
  | 1, .d => .set1D
  | 1, .e => .set1E
  | 1, .h => .set1H
  | 1, .l => .set1L
  | 1, .a => .set1A
  | 2, .b => .set2B
  | 2, .c => .set2C
  | 2, .d => .set2D
  | 2, .e => .set2E
  | 2, .h => .set2H
  | 2, .l => .set2L
  | 2, .a => .set2A
  | 3, .b => .set3B
  | 3, .c => .set3C
  | 3, .d => .set3D
  | 3, .e => .set3E
  | 3, .h => .set3H
  | 3, .l => .set3L
  | 3, .a => .set3A
  | 4, .b => .set4B
  | 4, .c => .set4C
  | 4, .d => .set4D
  | 4, .e => .set4E
  | 4, .h => .set4H
  | 4, .l => .set4L
  | 4, .a => .set4A
  | 5, .b => .set5B
  | 5, .c => .set5C
  | 5, .d => .set5D
  | 5, .e => .set5E
  | 5, .h => .set5H
  | 5, .l => .set5L
  | 5, .a => .set5A
  | 6, .b => .set6B
  | 6, .c => .set6C
  | 6, .d => .set6D
  | 6, .e => .set6E
  | 6, .h => .set6H
  | 6, .l => .set6L
  | 6, .a => .set6A
  | 7, .b => .set7B
  | 7, .c => .set7C
  | 7, .d => .set7D
  | 7, .e => .set7E
  | 7, .h => .set7H
  | 7, .l => .set7L
  | 7, .a => .set7A

/-- SET b,(HL) (46_bit.md R355). -/
def setMemHL : Fin 8 → Instr
  | 0 => .set0MemHL
  | 1 => .set1MemHL
  | 2 => .set2MemHL
  | 3 => .set3MemHL
  | 4 => .set4MemHL
  | 5 => .set5MemHL
  | 6 => .set6MemHL
  | 7 => .set7MemHL

/-- The eleven illegal opcodes (30_encoding.md R141, 48_cpu_control.md R385), each byte with its row. -/
def illegalRows : List (Byte × Instr) :=
  [(0xD3, .illegalD3), (0xDB, .illegalDB), (0xDD, .illegalDD), (0xE3, .illegalE3), (0xE4, .illegalE4), (0xEB, .illegalEB), (0xEC, .illegalEC), (0xED, .illegalED), (0xF4, .illegalF4), (0xFC, .illegalFC), (0xFD, .illegalFD)]

end Instr

end Sys2Proof
end

