-- ==== Sys2Proof/WellFormed.lean ====
section
/-! DEFINITION. Which terms of `Instr` are instructions. Every operand has exactly the width of its field, so the one
term that is no instruction is the CB row alone. -/

namespace Sys2Proof

/-- A term of `Instr` is an instruction unless it is the prefix byte without the byte it needs: 0xCB and its second byte
together are one instruction, the one of the CB table (30_encoding.md R138). -/
abbrev Instr.WellFormed (i : Instr) : Prop := i ≠ .prefixCb

end Sys2Proof
end

