-- ==== Sys2Proof/Config.lean ====
section
/-! DEFINITION. The parameters of the model (00_scope.md R7), with the spec's defaults. The spec leaves no value free:
there is no opaque constant. -/

namespace Sys2Proof

/-- `MBC1_MODE` (92_eei_decisions.md D9). -/
inductive Mbc1Mode where
  /-- The default: every MBC1 controller write is fatal (20_memory.md R98). -/
  | fatal
  /-- The optional controller of 20_memory.md R99. -/
  | standard
deriving DecidableEq, Repr

/-- `CYCLE_SCALE`: the unit of the cost a step returns (92_eei_decisions.md D1). -/
inductive CycleScale where
  /-- 1: M-cycles, the default. -/
  | mCycles
  /-- 4: clock periods. -/
  | clockPeriods
deriving DecidableEq, Repr

/-- The factor of 70_reset_and_hazards.md R474. -/
def CycleScale.factor : CycleScale → Nat
  | .mCycles => 1
  | .clockPeriods => 4

/-- The parameters of 00_scope.md R7, but for `ROM_IMAGE`, which is an input of the launch. They are fixed for a
machine: no step and no host action changes them (10_state.md R52). -/
structure Config where
  /-- `EXT_RAM_SIZE`, in bytes (92_eei_decisions.md D8). -/
  extRamSize : Nat := 0x8000
  /-- `INITIAL_ROM_BANK` (92_eei_decisions.md D6). -/
  initialRomBank : Nat := 1
  /-- `MBC1_MODE` (92_eei_decisions.md D9). -/
  mbc1Mode : Mbc1Mode := .fatal
  /-- `INTERRUPT_DISPATCH` (92_eei_decisions.md D18). -/
  interruptDispatch : Bool := true
  /-- `CYCLE_SCALE` (92_eei_decisions.md D1). -/
  cycleScale : CycleScale := .mCycles
deriving DecidableEq, Repr

/-- The values R7 admits: `EXT_RAM_SIZE` is a multiple of 0x2000. The bound on `INITIAL_ROM_BANK` needs the image and
is checked by the launch (70_reset_and_hazards.md R450). -/
abbrev Config.wf (c : Config) : Prop := c.extRamSize % 0x2000 = 0

end Sys2Proof
end

