-- ==== Sys2Proof/Machine/State.lean ====
section
/-! DEFINITION. The state of the machine as plain data (10_state.md), the faults and refusals, and the power-on state. -/

namespace Sys2Proof.Machine

/-- The controller kinds (10_state.md R44, R46). -/
inductive CartKind where
  /-- Kind None: no controller. -/
  | noMbc
  | mbc1
  | mbc2
  | mbc3
  | mbc5
deriving DecidableEq, Repr

/-- The reasons of the fault class Unmodelled (60_exceptions.md R404). -/
inductive UnmodelledReason where
  | haltBug
  | stop
  | iePushDispatch
deriving DecidableEq, Repr

/-- A fault record: the class of a fault and what it reports (60_exceptions.md R401-R404). -/
inductive FaultRecord where
  /-- Error class 1 (R401): the byte fetched and the address it was fetched from. -/
  | unimplementedOpcode (opcode : Byte) (pc : Word)
  /-- Error class 2 with an address (R402). -/
  | malformedCartridgeAddr (addr : Word)
  /-- Error class 2 with the offset of a bank select (R402). -/
  | malformedCartridgeOffset (offset : Nat)
  /-- Error class 3 (R403). -/
  | illegalWrite (addr : Word) (value : Byte)
  /-- The spec's own class (R404). -/
  | unmodelled (reason : UnmodelledReason)
deriving DecidableEq, Repr

/-- Storage: pairs of an address and the byte stored there, addresses rising, no byte 0x00 listed. An address that is
not listed reads as 0x00 (10_state.md R47, R53: every array is created zeroed). -/
abbrev Memory := List Host.Cell

/-- The state (10_state.md). Fields are named as the spec names them. -/
structure State where
  /-- A, the accumulator (R30). -/
  a : Byte
  /-- B (R30). -/
  b : Byte
  /-- C (R30). -/
  c : Byte
  /-- D (R30). -/
  d : Byte
  /-- E (R30). -/
  e : Byte
  /-- H (R30). -/
  h : Byte
  /-- L (R30). -/
  l : Byte
  /-- F: Z, N, H, C in bits 7..4, the low nibble 0 (R32). -/
  f : Byte
  /-- PC (R31, R38). -/
  pc : Word
  /-- SP (R31, R39). -/
  sp : Word
  /-- The engine is Halted (R40). -/
  halted : Bool
  /-- Interrupt master enable (R41). -/
  ime : Bool
  /-- The delay of EI (R42). -/
  imeDelay : Fin 3
  /-- The fault raised, if any (R43). -/
  fault : Option FaultRecord
  /-- The controller kind, fixed at load (R44). -/
  kind : CartKind
  /-- The ROM image by index, fixed at load (R44). -/
  rom : Memory
  /-- The length of the ROM image, fixed at load (R44). -/
  romLen : Nat
  /-- External RAM by index into the whole buffer (R44). -/
  extRam : Memory
  /-- The image offset mapped at 0x4000-0x7FFF (R45). -/
  romBankOffset : Nat
  /-- The selected external RAM bank (R45). -/
  ramBank : Byte
  /-- External RAM is enabled (R45). -/
  ramEnabled : Bool
  /-- Bits 7..0 of the MBC5 ROM bank number (R45). -/
  mbc5Lo : Byte
  /-- Bit 8 of the MBC5 ROM bank number (R45). -/
  mbc5Hi : BitVec 1
  /-- MBC1 in Standard mode: the low bank bits (R45, 20_memory.md R99). -/
  mbc1BankLo : BitVec 5
  /-- MBC1 in Standard mode: the high bank bits (R45, 20_memory.md R99). -/
  mbc1BankHi : BitVec 2
  /-- MBC1 in Standard mode: the mode select (R45, 20_memory.md R99). -/
  mbc1Mode : BitVec 1
  /-- The on-board arrays `vram`, `wram`, `oam`, `io` and `hram`, each byte at its own bus address (R47). IF is the
  byte at 0xFF0F (R49). -/
  mem : Memory
  /-- IE, the byte at 0xFFFF (R48). -/
  ie : Byte
  /-- The parameters: not state of the core (R52), held here because a step takes the state alone (log entry 3). -/
  cfg : Config
deriving DecidableEq, Repr

/-- Why a step has no result. -/
inductive Fault where
  /-- Answered by `step` on a state whose `fault` is `k`: a faulted machine has no further step (10_state.md R43,
  60_exceptions.md R400). The step that raises `k` itself answers the faulted state as its next state (log entry 2).
  Safe: the spec gives such a state no step. -/
  | faulted (k : FaultRecord)
deriving DecidableEq, Repr

/-- Why an instruction has no meaning. -/
inductive Refusal where
  /-- Answered by `exec` for an instruction without a meaning. No arm answers it: every row of the table has its
  meaning. Safe. -/
  | notModelled (mnemonic : String)
deriving DecidableEq, Repr

/-- What a step, or a meaning, answers. -/
abbrev Out := Host.Outcome State Fault Refusal

/-- The power-on state (10_state.md R53, 70_reset_and_hazards.md R451) with the default parameters (00_scope.md R7) and
the image of 0x8000 bytes 0x00, whose kind is None (log entry 1). -/
def State.reset : State where
  a := 0
  b := 0
  c := 0
  d := 0
  e := 0
  h := 0
  l := 0
  f := 0
  pc := 0
  sp := 0
  halted := false
  ime := false
  imeDelay := 0
  fault := none
  kind := .noMbc
  rom := []
  romLen := 0x8000
  extRam := []
  romBankOffset := 0x4000
  ramBank := 0
  ramEnabled := false
  mbc5Lo := 1
  mbc5Hi := 0
  mbc1BankLo := 1
  mbc1BankHi := 0
  mbc1Mode := 0
  mem := []
  ie := 0
  cfg := {}

end Sys2Proof.Machine
end

