-- ==== Sys2Proof/Machine/Ops.lean ====
section
/-! DEFINITION. The named operations every meaning is built from: raising a fault, the registers, storage, the
cartridge, the bus, fetch and stack, and the interrupt mechanism. -/

namespace Sys2Proof.Machine

/-! ## Running a piece of pseudocode, and raising a fault -/

/-- How a piece of pseudocode ends: with a value, or at a `raise`; with the state it leaves either way. -/
inductive Res (α : Type) where
  | ok (v : α) (s : State)
  | raised (s : State)
deriving DecidableEq, Repr

/-- One statement after another: a statement after a `raise` is not reached (00_scope.md R12). -/
def Res.andThen {α β : Type} (r : Res α) (k : α → State → Res β) : Res β :=
  match r with
  | .ok v s => k v s
  | .raised s => .raised s

/-- The state a piece of pseudocode leaves, at its end or at its `raise`. -/
def Res.state {α : Type} : Res α → State
  | .ok _ s => s
  | .raised s => s

/-- A whole rule as the step sees it: the state it leaves, `fault` recorded in it if the rule raised one
(60_exceptions.md R400, 40_engine.md R171; log entry 2). -/
def Res.out {α : Type} (r : Res α) : Out := .next r.state

/-- A statement with an effect and no value. -/
def done (s : State) : Res Unit := .ok () s

/-- `raise K(info)`: the rule ends here, every write made so far is kept, and `fault` records the fault
(60_exceptions.md R400). -/
def raise {α : Type} (k : FaultRecord) (s : State) : Res α := .raised { s with fault := some k }

/-! ## Registers -/

/-- `x[r]` for an 8-bit register of the field `r` (00_scope.md R10). -/
def State.reg (s : State) : Reg8 → Byte
  | .b => s.b
  | .c => s.c
  | .d => s.d
  | .e => s.e
  | .h => s.h
  | .l => s.l
  | .a => s.a

/-- `x[r] <- v` (00_scope.md R10). -/
def State.setReg (s : State) (r : Reg8) (v : Byte) : State :=
  match r with
  | .b => { s with b := v }
  | .c => { s with c := v }
  | .d => { s with d := v }
  | .e => { s with e := v }
  | .h => { s with h := v }
  | .l => { s with l := v }
  | .a => { s with a := v }

/-- Read F: the flags in bits 7..4, 0 in bits 3..0 (10_state.md R32). -/
def State.readF (s : State) : Byte := s.f &&& 0xF0

/-- Write F: every write stores `v & 0xF0` (10_state.md R32). -/
def State.writeF (s : State) (v : Byte) : State := { s with f := v &&& 0xF0 }

/-- `x[BC]` (10_state.md R33). -/
def State.bc (s : State) : Word := wordOf s.b s.c

/-- `x[DE]` (10_state.md R33). -/
def State.de (s : State) : Word := wordOf s.d s.e

/-- `x[HL]` (10_state.md R33). -/
def State.hl (s : State) : Word := wordOf s.h s.l

/-- `x[AF]` (10_state.md R33). -/
def State.af (s : State) : Word := wordOf s.a s.readF

/-- `x[BC] <- v` (10_state.md R33). -/
def State.setBC (s : State) (v : Word) : State := { s with b := hiByte v, c := loByte v }

/-- `x[DE] <- v` (10_state.md R33). -/
def State.setDE (s : State) (v : Word) : State := { s with d := hiByte v, e := loByte v }

/-- `x[HL] <- v` (10_state.md R33). -/
def State.setHL (s : State) (v : Word) : State := { s with h := hiByte v, l := loByte v }

/-- `x[AF] <- v`: the low nibble of `v` is dropped (10_state.md R33, R34). -/
def State.setAF (s : State) (v : Word) : State := { s with a := hiByte v, f := loByte v &&& 0xF0 }

/-- `x[rr]` for the field `rp` (30_encoding.md R133). -/
def State.pair (s : State) : Pair → Word
  | .bc => s.bc
  | .de => s.de
  | .hl => s.hl
  | .sp => s.sp

/-- `x[rr] <- v` for the field `rp` (30_encoding.md R133). -/
def State.setPair (s : State) (p : Pair) (v : Word) : State :=
  match p with
  | .bc => s.setBC v
  | .de => s.setDE v
  | .hl => s.setHL v
  | .sp => { s with sp := v }

/-- `x[rr]` for the field `rp2` (30_encoding.md R134). -/
def State.stackPair (s : State) : StackPair → Word
  | .bc => s.bc
  | .de => s.de
  | .hl => s.hl
  | .af => s.af

/-- `x[rr] <- v` for the field `rp2` (30_encoding.md R134). -/
def State.setStackPair (s : State) (p : StackPair) (v : Word) : State :=
  match p with
  | .bc => s.setBC v
  | .de => s.setDE v
  | .hl => s.setHL v
  | .af => s.setAF v

/-! ## Storage -/

/-- The byte at a key: an unlisted key reads as 0x00. -/
def Memory.read : Memory → Nat → Byte
  | [], _ => 0
  | (k, v) :: rest, key => if k = key then v else Memory.read rest key

/-- Put a byte that is not 0x00 at a key that is not listed, keeping the keys rising. -/
def Memory.insert (key : Nat) (v : Byte) : Memory → Memory
  | [] => [(key, v)]
  | (k, w) :: rest => if key < k then (key, v) :: (k, w) :: rest else (k, w) :: Memory.insert key v rest

/-- Store a byte: 0x00 takes the key out of the list, any other byte is listed in its place. -/
def Memory.write (m : Memory) (key : Nat) (v : Byte) : Memory :=
  let others := m.filter (fun cell => cell.1 != key)
  if v = 0 then others else Memory.insert key v others

/-- The canonical form: keys strictly rising, no 0x00 listed. -/
abbrev Memory.wf (m : Memory) : Prop := m.Pairwise (fun x y => x.1 < y.1) ∧ ∀ cell ∈ m, cell.2 ≠ 0

/-- The canonical storage of a list of bytes from an index on (the launch's image). -/
def Memory.ofBytes : Nat → List Byte → Memory
  | _, [] => []
  | i, v :: rest => if v = 0 then Memory.ofBytes (i + 1) rest else (i, v) :: Memory.ofBytes (i + 1) rest

/-! ## The cartridge -/

/-- The kind from the header byte at 0x0147 (10_state.md R46). -/
def classify (header : Byte) : CartKind :=
  let n := header.toNat
  if 0x01 ≤ n ∧ n ≤ 0x03 then .mbc1
  else if 0x05 ≤ n ∧ n ≤ 0x06 then .mbc2
  else if 0x0F ≤ n ∧ n ≤ 0x13 then .mbc3
  else if 0x19 ≤ n ∧ n ≤ 0x1E then .mbc5
  else .noMbc

/-- `RamIndex(a)` (20_memory.md R94). -/
def ramIndex (s : State) (a : Word) : Nat := s.ramBank.toNat * 0x2000 + (a.toNat - 0xA000)

/-- `CartRead(a)` for 0xA000-0xBFFF (20_memory.md R92, R94). -/
def cartRamRead (s : State) (a : Word) : Except FaultRecord Byte :=
  if s.ramEnabled then
    if ramIndex s a < s.cfg.extRamSize then .ok (Memory.read s.extRam (ramIndex s a))
    else .error (.malformedCartridgeAddr a)
  else .ok 0xFF

/-- `CartWrite(a, v)` for 0xA000-0xBFFF (20_memory.md R93, R94, R97). -/
def cartRamWrite (a : Word) (v : Byte) (s : State) : Res Unit :=
  if s.kind = .noMbc then raise (.malformedCartridgeAddr a) s
  else if s.ramEnabled then
    if ramIndex s a < s.cfg.extRamSize then
      done { s with extRam := Memory.write s.extRam (ramIndex s a) v }
    else raise (.malformedCartridgeAddr a) s
  else done s

/-- `SelectRomBank(bank)` (20_memory.md R95). -/
def selectRomBank (bank : Nat) (s : State) : Res Unit :=
  if bank * 0x4000 + 0x4000 ≤ s.romLen then done { s with romBankOffset := bank * 0x4000 }
  else raise (.malformedCartridgeOffset (bank * 0x4000)) s

/-- A RAM enable by the value's low nibble (20_memory.md R99, R103, R106). -/
def enableRam (v : Byte) (s : State) : Res Unit := done { s with ramEnabled := v &&& 0x0F == 0x0A }

/-- The MBC1 ROM bank number, `(mbc1_bank_hi << 5) | mbc1_bank_lo` (20_memory.md R99). -/
def mbc1Bank (s : State) : Nat := s.mbc1BankHi.toNat * 0x20 + s.mbc1BankLo.toNat

/-- `ram_bank <- (mbc1_mode == 1) ? mbc1_bank_hi : 0` (20_memory.md R99). -/
def mbc1SetRamBank (s : State) : Res Unit :=
  done { s with ramBank := if s.mbc1Mode = 1 then s.mbc1BankHi.setWidth 8 else 0 }

/-- Controller writes of MBC1 in Standard mode (20_memory.md R99). -/
def mbc1Write (a : Word) (v : Byte) (s : State) : Res Unit :=
  if a.toNat < 0x2000 then enableRam v s
  else if a.toNat < 0x4000 then
    let lo : BitVec 5 := v.setWidth 5
    let s1 := { s with mbc1BankLo := if lo = 0 then 1 else lo }
    selectRomBank (mbc1Bank s1) s1
  else if a.toNat < 0x6000 then
    let s1 := { s with mbc1BankHi := v.setWidth 2 }
    (selectRomBank (mbc1Bank s1) s1).andThen fun _ s2 => mbc1SetRamBank s2
  else mbc1SetRamBank { s with mbc1Mode := v.setWidth 1 }

/-- Controller writes of MBC2 (20_memory.md R100, R101, R102). -/
def mbc2Write (a : Word) (v : Byte) (s : State) : Res Unit :=
  if a.toNat < 0x2000 then
    if a.getLsbD 8 then raise (.illegalWrite a v) s else done { s with ramEnabled := !s.ramEnabled }
  else if a.toNat < 0x4000 then
    if a.getLsbD 8 then selectRomBank (v &&& 0x0F).toNat s else raise (.illegalWrite a v) s
  else raise (.illegalWrite a v) s

/-- Controller writes of MBC3 (20_memory.md R103, R104, R105). -/
def mbc3Write (a : Word) (v : Byte) (s : State) : Res Unit :=
  if a.toNat < 0x2000 then enableRam v s
  else if a.toNat < 0x4000 then
    selectRomBank (if v &&& 0x7F = 0 then 1 else (v &&& 0x7F).toNat) s
  else done { s with ramBank := v }

/-- The MBC5 ROM bank number, `mbc5_hi * 0x100 + mbc5_lo` (20_memory.md R107). -/
def mbc5Bank (s : State) : Nat := s.mbc5Hi.toNat * 0x100 + s.mbc5Lo.toNat

/-- Controller writes of MBC5 (20_memory.md R106-R110). -/
def mbc5Write (a : Word) (v : Byte) (s : State) : Res Unit :=
  if a.toNat < 0x2000 then enableRam v s
  else if a.toNat < 0x3000 then
    let s1 := { s with mbc5Lo := v }
    selectRomBank (mbc5Bank s1) s1
  else if a.toNat < 0x4000 then
    let s1 := { s with mbc5Hi := v.setWidth 1 }
    selectRomBank (mbc5Bank s1) s1
  else if a.toNat < 0x6000 then done { s with ramBank := v }
  else raise (.illegalWrite a v) s

/-- `CartWrite(a, v)` for 0x0000-0x7FFF, by kind (20_memory.md R96-R98). -/
def controllerWrite (a : Word) (v : Byte) (s : State) : Res Unit :=
  match s.kind with
  | .noMbc => raise (.malformedCartridgeAddr a) s
  | .mbc1 =>
    match s.cfg.mbc1Mode with
    | .fatal => raise (.malformedCartridgeAddr a) s
    | .standard => mbc1Write a v s
  | .mbc2 => mbc2Write a v s
  | .mbc3 => mbc3Write a v s
  | .mbc5 => mbc5Write a v s

/-! ## The bus -/

/-- The ranges of the address map (20_memory.md R74). -/
inductive Region where
  | rom0
  | romBank
  | vram
  | extRam
  | wram
  | echo
  | oam
  | unusable
  | io
  | hram
  | ie
deriving DecidableEq, Repr

/-- The range of an address; every address has one (20_memory.md R74, R90, R91). -/
def region (a : Word) : Region :=
  let n := a.toNat
  if n ≤ 0x3FFF then .rom0
  else if n ≤ 0x7FFF then .romBank
  else if n ≤ 0x9FFF then .vram
  else if n ≤ 0xBFFF then .extRam
  else if n ≤ 0xDFFF then .wram
  else if n ≤ 0xFDFF then .echo
  else if n ≤ 0xFE9F then .oam
  else if n ≤ 0xFEFF then .unusable
  else if n ≤ 0xFF7F then .io
  else if n ≤ 0xFFFE then .hram
  else .ie

/-- `MemRead(a, 1)` as a value: it changes no state (20_memory.md R75, R84, R90-R92). -/
def busRead (s : State) (a : Word) : Except FaultRecord Byte :=
  match region a with
  | .rom0 => .ok (Memory.read s.rom a.toNat)
  | .romBank => .ok (Memory.read s.rom (a.toNat - 0x4000 + s.romBankOffset))
  | .extRam => cartRamRead s a
  | .vram | .wram | .oam | .io | .hram => .ok (Memory.read s.mem a.toNat)
  | .echo => .ok (Memory.read s.mem (a.toNat - 0x2000))
  | .unusable => .ok 0x00
  | .ie => .ok s.ie

/-- `MemRead(a, 1)` as a statement: it may raise (20_memory.md R75, 60_exceptions.md R405). -/
def memRead (a : Word) (s : State) : Res Byte :=
  match busRead s a with
  | .ok v => .ok v s
  | .error k => raise k s

/-- `MemWrite(a, 1, v)` (20_memory.md R76). -/
def memWrite (a : Word) (v : Byte) (s : State) : Res Unit :=
  match region a with
  | .rom0 | .romBank => controllerWrite a v s
  | .extRam => cartRamWrite a v s
  | .vram | .wram | .oam | .io | .hram => done { s with mem := Memory.write s.mem a.toNat v }
  | .echo => done { s with mem := Memory.write s.mem (a.toNat - 0x2000) v }
  | .unusable => done s
  | .ie => done { s with ie := v }

/-- `MemRead(a, 2)`: the byte at `a`, then the byte at `a + 1`, which is the high one (00_scope.md R11). -/
def memRead16 (a : Word) (s : State) : Res Word :=
  (memRead a s).andThen fun lo s1 => (memRead (a + 1) s1).andThen fun hi s2 => .ok (wordOf hi lo) s2

/-- `MemWrite(a, 2, v)`: the low byte at `a`, then the high byte at `a + 1` (00_scope.md R11). -/
def memWrite16 (a : Word) (v : Word) (s : State) : Res Unit :=
  (memWrite a (loByte v) s).andThen fun _ s1 => memWrite (a + 1) (hiByte v) s1

/-! ## Fetch and stack -/

/-- `fetch8()` (40_engine.md R172). -/
def fetch8 (s : State) : Res Byte :=
  (memRead s.pc s).andThen fun v s1 => .ok v { s1 with pc := s1.pc + 1 }

/-- `fetch16()` (40_engine.md R173). -/
def fetch16 (s : State) : Res Word :=
  (fetch8 s).andThen fun lo s1 => (fetch8 s1).andThen fun hi s2 => .ok (wordOf hi lo) s2

/-- Fetch an instruction: the opcode byte, then the bytes its row takes, in byte order, before anything else the
instruction does (40_engine.md R176, 30_encoding.md R130, R138). -/
def fetchInstr (s : State) : Res Instr :=
  (fetch8 s).andThen fun op s1 =>
    match primaryRow op with
    | .op i => .ok i s1
    | .op8 f => (fetch8 s1).andThen fun v s2 => .ok (f v) s2
    | .op16 f => (fetch16 s1).andThen fun w s2 => .ok (f w) s2
    | .cb => (fetch8 s1).andThen fun op2 s2 => .ok (cbInstr op2) s2

/-- `push16(v)` (40_engine.md R174). -/
def push16 (v : Word) (s : State) : Res Unit :=
  let s1 := { s with sp := s.sp - 2 }
  memWrite16 s1.sp v s1

/-- `pop16()` (40_engine.md R175). -/
def pop16 (s : State) : Res Word :=
  (memRead16 s.sp s).andThen fun v s1 => .ok v { s1 with sp := s1.sp + 2 }

/-! ## Interrupts -/

/-- IF, the io byte at 0xFF0F (10_state.md R49). -/
def State.ifReg (s : State) : Byte := Memory.read s.mem 0xFF0F

/-- `Pending()` (60_exceptions.md R413). -/
def pending (s : State) : Byte := s.ie &&& s.ifReg &&& 0x1F

/-- The source served: the lowest set bit (60_exceptions.md R414). -/
def lowestSource (p : Byte) : Fin 5 :=
  if p.getLsbD 0 then 0
  else if p.getLsbD 1 then 1
  else if p.getLsbD 2 then 2
  else if p.getLsbD 3 then 3
  else 4

/-- The vector of a source (60_exceptions.md R410). -/
def vector (i : Fin 5) : Word := 0x0040 + 8 * BitVec.ofNat 16 i.val

/-- The wake-up at the top of a step (60_exceptions.md R416; none with dispatch off, R422). -/
def wake (s : State) : State :=
  if s.cfg.interruptDispatch ∧ s.halted ∧ pending s ≠ 0 then { s with halted := false } else s

/-- A step is a dispatch (60_exceptions.md R415; never with dispatch off, R422). -/
abbrev dispatchDue (s : State) : Prop := s.cfg.interruptDispatch ∧ s.ime ∧ pending s ≠ 0

/-- `Dispatch()` (60_exceptions.md R417, R418). DEDUCED, unsafe: its push may fault like any stack write, as R417, R418 and
vector V200 say, against R406, by which a dispatch step raises only IePushDispatch (log entry 13). -/
def dispatch (s : State) : Res Unit :=
  let i := lowestSource (pending s)
  if s.sp = 0x0000 ∨ s.sp = 0x0001 then raise (.unmodelled .iePushDispatch) s
  else
    let s1 := { s with
      mem := Memory.write s.mem 0xFF0F (s.ifReg &&& ~~~((1 : Byte) <<< i.val))
      ime := false
      imeDelay := 0 }
    (push16 s1.pc s1).andThen fun _ s2 => done { s2 with pc := vector i }

/-- The return from an interrupt handler: pop PC and enable at once (60_exceptions.md R420, 47_control.md R369). -/
def returnFromInterrupt (s : State) : Res Unit :=
  (pop16 s).andThen fun v s1 => done { s1 with pc := v, ime := true, imeDelay := 0 }

/-- The delay counter one instruction on (60_exceptions.md R419). -/
def tickDelay : Fin 3 → Fin 3
  | 0 => 0
  | 1 => 0
  | 2 => 1

/-- `EndOfInstruction()`, which a fault does not reach (60_exceptions.md R419). -/
def endOfInstruction (s : State) : State :=
  if s.fault.isSome then s
  else { s with ime := s.ime || s.imeDelay == 1, imeDelay := tickDelay s.imeDelay }

/-! ## Storing a byte from outside (the loader of `withFetchWord`, and the host's writes) -/

/-- Put a byte into the storage behind an address, with no controller write. An address with no storage (the unusable
range, disabled or absent external RAM) keeps its state. -/
def pokeByte (a : Word) (v : Byte) (s : State) : State :=
  match region a with
  | .rom0 => { s with rom := Memory.write s.rom a.toNat v }
  | .romBank => { s with rom := Memory.write s.rom (a.toNat - 0x4000 + s.romBankOffset) v }
  | .extRam =>
    if s.ramEnabled ∧ ramIndex s a < s.cfg.extRamSize then
      { s with extRam := Memory.write s.extRam (ramIndex s a) v }
    else s
  | .vram | .wram | .oam | .io | .hram => { s with mem := Memory.write s.mem a.toNat v }
  | .echo => { s with mem := Memory.write s.mem (a.toNat - 0x2000) v }
  | .unusable => s
  | .ie => { s with ie := v }

end Sys2Proof.Machine
end

