-- ==== Sys2Proof/Machine/Flags.lean ====
section
/-! DEFINITION. The flags, and the arithmetic, logic, rotate and bit primitives of 40_engine.md R179-R206 as functions
of their operands: each gives its result and the flags after it. Sums and differences are exact integers, cut to size at
the end (00_scope.md R9, 40_engine.md R206). -/

namespace Sys2Proof.Machine

/-- The four flags (10_state.md R32). -/
structure Flags where
  z : Bool
  n : Bool
  h : Bool
  c : Bool
deriving DecidableEq, Repr

/-- The name of a flag (10_state.md R35). -/
inductive Flag where
  | z
  | n
  | h
  | c
deriving DecidableEq, Repr

/-- The flags as F holds them: Z, N, H, C in bits 7..4, then 0000 (10_state.md R32). -/
def Flags.pack (fl : Flags) : Byte :=
  BitVec.ofBool fl.z ++ BitVec.ofBool fl.n ++ BitVec.ofBool fl.h ++ BitVec.ofBool fl.c ++ (0 : BitVec 4)

/-- One flag of the four. -/
def Flags.get (fl : Flags) : Flag → Bool
  | .z => fl.z
  | .n => fl.n
  | .h => fl.h
  | .c => fl.c

/-- One flag set, the other three as they were. -/
def Flags.set (fl : Flags) (which : Flag) (v : Bool) : Flags :=
  match which with
  | .z => { fl with z := v }
  | .n => { fl with n := v }
  | .h => { fl with h := v }
  | .c => { fl with c := v }

/-- The flags F holds (10_state.md R32). -/
def State.flags (s : State) : Flags where
  z := s.f.getLsbD 7
  n := s.f.getLsbD 6
  h := s.f.getLsbD 5
  c := s.f.getLsbD 4

/-- Write all four flags; the low nibble of F becomes 0 (10_state.md R32). -/
def State.setFlags (s : State) (fl : Flags) : State := s.writeF fl.pack

/-- `get_flag(f)` (10_state.md R35). -/
def State.getFlag (s : State) (which : Flag) : Bool := s.flags.get which

/-- `set_flag(f, b)` (10_state.md R35). -/
def State.setFlag (s : State) (which : Flag) (v : Bool) : State := s.setFlags (s.flags.set which v)

/-- A flag as a number, `Cy` in the sums of 40_engine.md section 3. -/
def bit01 (b : Bool) : Nat := if b then 1 else 0

/-! ## 8-bit arithmetic and logic -/

/-- `add(v)` (40_engine.md R180). -/
def add8 (a v : Byte) : Byte × Flags :=
  let s := a.toNat + v.toNat
  let r := BitVec.ofNat 8 s
  (r, { z := r = 0, n := false, h := a.toNat % 16 + v.toNat % 16 > 0xF, c := s > 0xFF })

/-- `adc(v)` with the incoming carry (40_engine.md R181). -/
def adc8 (a v : Byte) (cy : Bool) : Byte × Flags :=
  let s := a.toNat + v.toNat + bit01 cy
  let r := BitVec.ofNat 8 s
  (r, { z := r = 0, n := false, h := a.toNat % 16 + v.toNat % 16 + bit01 cy > 0xF, c := s > 0xFF })

/-- `cp(v)`: the flags of a comparison (40_engine.md R187). -/
def cp8 (a v : Byte) : Flags :=
  { z := a = v, n := true, h := a.toNat % 16 < v.toNat % 16, c := a.toNat < v.toNat }

/-- `sub(v)`: the flags of `cp(v)`, then the difference (40_engine.md R182). -/
def sub8 (a v : Byte) : Byte × Flags :=
  (BitVec.ofInt 8 ((a.toNat : Int) - v.toNat), cp8 a v)

/-- `sbc(v)` with the incoming carry; Z from the 8-bit result (40_engine.md R183). -/
def sbc8 (a v : Byte) (cy : Bool) : Byte × Flags :=
  let r := BitVec.ofInt 8 ((a.toNat : Int) - v.toNat - bit01 cy)
  (r, { z := r = 0, n := true, h := a.toNat % 16 < v.toNat % 16 + bit01 cy, c := a.toNat < v.toNat + bit01 cy })

/-- `and(v)` (40_engine.md R184). -/
def and8 (a v : Byte) : Byte × Flags := (a &&& v, { z := a &&& v = 0, n := false, h := true, c := false })

/-- `or(v)` (40_engine.md R185). -/
def or8 (a v : Byte) : Byte × Flags := (a ||| v, { z := a ||| v = 0, n := false, h := false, c := false })

/-- `xor(v)` (40_engine.md R186). -/
def xor8 (a v : Byte) : Byte × Flags := (a ^^^ v, { z := a ^^^ v = 0, n := false, h := false, c := false })

/-- `alu(y, v)`: the new A and the flags (40_engine.md R188). CP leaves A as it is. -/
def alu8 (op : AluOp) (a v : Byte) (cy : Bool) : Byte × Flags :=
  match op with
  | .add => add8 a v
  | .adc => adc8 a v cy
  | .sub => sub8 a v
  | .sbc => sbc8 a v cy
  | .and => and8 a v
  | .xor => xor8 a v
  | .or => or8 a v
  | .cp => (a, cp8 a v)

/-- `inc(v)`: C as it was (40_engine.md R189). -/
def inc8 (v : Byte) (cy : Bool) : Byte × Flags :=
  let r := v + 1
  (r, { z := r = 0, n := false, h := v.toNat % 16 = 0xF, c := cy })

/-- `dec(v)`: C as it was (40_engine.md R190). -/
def dec8 (v : Byte) (cy : Bool) : Byte × Flags :=
  let r := v - 1
  (r, { z := r = 0, n := true, h := v.toNat % 16 = 0, c := cy })

/-! ## Rotates, shifts and bits -/

/-- A bit as a byte. -/
def bitByte (b : Bool) : Byte := if b then 1 else 0

/-- The flags of a rotate or shift: Z from the result, N and H clear, C the bit shifted out (40_engine.md R191-R197). -/
def shiftFlags (r : Byte) (co : Bool) : Flags := { z := r = 0, n := false, h := false, c := co }

/-- `rlc(v)` (40_engine.md R191). -/
def rlc8 (v : Byte) : Byte × Flags :=
  let r := v <<< 1 ||| bitByte (v.getLsbD 7)
  (r, shiftFlags r (v.getLsbD 7))

/-- `rrc(v)` (40_engine.md R192). -/
def rrc8 (v : Byte) : Byte × Flags :=
  let r := v >>> 1 ||| bitByte (v.getLsbD 0) <<< 7
  (r, shiftFlags r (v.getLsbD 0))

/-- `rl(v)` (40_engine.md R193). -/
def rl8 (v : Byte) (cy : Bool) : Byte × Flags :=
  let r := v <<< 1 ||| bitByte cy
  (r, shiftFlags r (v.getLsbD 7))

/-- `rr(v)` (40_engine.md R194). -/
def rr8 (v : Byte) (cy : Bool) : Byte × Flags :=
  let r := v >>> 1 ||| bitByte cy <<< 7
  (r, shiftFlags r (v.getLsbD 0))

/-- `sla(v)` (40_engine.md R195). -/
def sla8 (v : Byte) : Byte × Flags :=
  let r := v <<< 1
  (r, shiftFlags r (v.getLsbD 7))

/-- `sra(v)` (40_engine.md R196). -/
def sra8 (v : Byte) : Byte × Flags :=
  let r := v >>> 1 ||| v &&& 0x80
  (r, shiftFlags r (v.getLsbD 0))

/-- `srl(v)` (40_engine.md R197). -/
def srl8 (v : Byte) : Byte × Flags :=
  let r := v >>> 1
  (r, shiftFlags r (v.getLsbD 0))

/-- `swap(v)` (40_engine.md R198). -/
def swap8 (v : Byte) : Byte × Flags :=
  let r := v <<< 4 ||| v >>> 4
  (r, shiftFlags r false)

/-- `rot(k, v)` (40_engine.md R199). -/
def rot8 (k : RotOp) (v : Byte) (cy : Bool) : Byte × Flags :=
  match k with
  | .rlc => rlc8 v
  | .rrc => rrc8 v
  | .rl => rl8 v cy
  | .rr => rr8 v cy
  | .sla => sla8 v
  | .sra => sra8 v
  | .swap => swap8 v
  | .srl => srl8 v

/-- `rot_a(k, v)`: the rotate with Z clear (40_engine.md R205). -/
def rotA8 (k : RotOp) (v : Byte) (cy : Bool) : Byte × Flags :=
  ((rot8 k v cy).1, { (rot8 k v cy).2 with z := false })

/-- `bit(b, v)`: C as it was (40_engine.md R200). -/
def bit8 (b : Fin 8) (v : Byte) (cy : Bool) : Flags :=
  { z := !v.getLsbD b.val, n := false, h := true, c := cy }

/-- Bit `b` cleared (46_bit.md R352). -/
def res8 (b : Fin 8) (v : Byte) : Byte := v &&& ~~~((1 : Byte) <<< b.val)

/-- Bit `b` set (46_bit.md R354). -/
def set8 (b : Fin 8) (v : Byte) : Byte := v ||| (1 : Byte) <<< b.val

/-! ## 16-bit arithmetic and decimal adjust -/

/-- `add_16(lhs, rhs)`: Z as it was, H from bit 11, C from bit 15 (40_engine.md R201). -/
def add16 (lhs rhs : Word) (z : Bool) : Word × Flags :=
  let s := lhs.toNat + rhs.toNat
  (BitVec.ofNat 16 s,
    { z := z, n := false, h := lhs.toNat % 0x1000 + rhs.toNat % 0x1000 > 0xFFF, c := s > 0xFFFF })

/-- `add_sp_e(e)`: H and C from the unsigned low-byte sum (40_engine.md R202). -/
def addSpE (sp : Word) (e : Byte) : Word × Flags :=
  (sp + sext16 e,
    { z := false, n := false, h := sp.toNat % 16 + e.toNat % 16 > 0xF, c := sp.toNat % 256 + e.toNat > 0xFF })

/-- `daa()` (40_engine.md R203). -/
def daa8 (a : Byte) (fl : Flags) : Byte × Flags :=
  let n : Int := a.toNat
  let high := fl.c || (!fl.n && decide (a.toNat > 0x99))
  let low := fl.h || (!fl.n && decide (a.toNat % 16 > 0x09))
  let step : Int := (if high then 0x60 else 0) + (if low then 0x06 else 0)
  let r := BitVec.ofInt 8 (if fl.n then n - step else n + step)
  (r, { z := r = 0, n := fl.n, h := false, c := high })

end Sys2Proof.Machine
end

