-- ==== Sys2Proof/Machine/Operands.lean ====
section
/-! DEFINITION. Operand access and conditions: the field `r` with its memory form, the condition field, and the one
read-modify-write shape on the byte at HL. -/

namespace Sys2Proof.Machine

/-- `readR(r)` (40_engine.md R177). -/
def readR (o : Operand8) (s : State) : Res Byte :=
  match o with
  | .reg r => .ok (s.reg r) s
  | .memHL => memRead s.hl s

/-- `writeR(r, v)` (40_engine.md R177). -/
def writeR (o : Operand8) (v : Byte) (s : State) : Res Unit :=
  match o with
  | .reg r => done (s.setReg r v)
  | .memHL => memWrite s.hl v s

/-- `cond(cc)` (40_engine.md R178). -/
def cond (cc : Cond) (s : State) : Bool :=
  match cc with
  | .nz => !s.flags.z
  | .z => s.flags.z
  | .nc => !s.flags.c
  | .c => s.flags.c

/-- A primitive that replaces an operand and sets the flags: read, compute, set the flags, write back. The flags are
set when the primitive is evaluated, before the write (40_engine.md R177; log entry 5). -/
def modifyWithFlags (o : Operand8) (f : Byte → Bool → Byte × Flags) (s : State) : Res Unit :=
  (readR o s).andThen fun v s1 =>
    let r := f v s1.flags.c
    writeR o r.1 (s1.setFlags r.2)

/-- A primitive that replaces an operand and writes no flag (46_bit.md R352-R355). -/
def modifyPlain (o : Operand8) (f : Byte → Byte) (s : State) : Res Unit :=
  (readR o s).andThen fun v s1 => writeR o (f v) s1

/-- An address of the high page, `0xFF00 + n` (30_encoding.md R136). -/
def highPage (n : Byte) : Word := 0xFF00 + zext16 n

end Sys2Proof.Machine
end

