-- ==== Sys2Proof/Machine/Alu16.lean ====
section
/-! DEFINITION. 16-bit arithmetic (44_alu16.md R310-R313). First the shared shapes, then one definition per
row of spec/opcode_table.json. -/

namespace Sys2Proof.Machine

/-- ADD HL,rr (44_alu16.md R310). -/
def addToHL (p : Pair) (s : State) : Out :=
  let r := add16 s.hl (s.pair p) s.flags.z
  .next ((s.setFlags r.2).setHL r.1)

/-- INC BC (44_alu16.md R311). -/
def execIncBC (s : State) : Out := .next (s.setPair .bc (s.pair .bc + 1))

/-- ADD HL,BC (44_alu16.md R310). -/
def execAddHLBC (s : State) : Out := addToHL .bc s

/-- DEC BC (44_alu16.md R312). -/
def execDecBC (s : State) : Out := .next (s.setPair .bc (s.pair .bc - 1))

/-- INC DE (44_alu16.md R311). -/
def execIncDE (s : State) : Out := .next (s.setPair .de (s.pair .de + 1))

/-- ADD HL,DE (44_alu16.md R310). -/
def execAddHLDE (s : State) : Out := addToHL .de s

/-- DEC DE (44_alu16.md R312). -/
def execDecDE (s : State) : Out := .next (s.setPair .de (s.pair .de - 1))

/-- INC HL (44_alu16.md R311). -/
def execIncHL (s : State) : Out := .next (s.setPair .hl (s.pair .hl + 1))

/-- ADD HL,HL (44_alu16.md R310). -/
def execAddHLHL (s : State) : Out := addToHL .hl s

/-- DEC HL (44_alu16.md R312). -/
def execDecHL (s : State) : Out := .next (s.setPair .hl (s.pair .hl - 1))

/-- INC SP (44_alu16.md R311). -/
def execIncSP (s : State) : Out := .next (s.setPair .sp (s.pair .sp + 1))

/-- ADD HL,SP (44_alu16.md R310). -/
def execAddHLSP (s : State) : Out := addToHL .sp s

/-- DEC SP (44_alu16.md R312). -/
def execDecSP (s : State) : Out := .next (s.setPair .sp (s.pair .sp - 1))

/-- ADD SP,e (44_alu16.md R313). -/
def execAddSPE8 (e : Byte) (s : State) : Out := .next { s.setFlags (addSpE s.sp e).2 with sp := (addSpE s.sp e).1 }

end Sys2Proof.Machine
end

