-- ==== Sys2Proof/Machine/Alu8.lean ====
section
/-! DEFINITION. 8-bit arithmetic and logic (43_alu8.md R270-R301). First the shared shapes, then one definition per
row of spec/opcode_table.json. -/

namespace Sys2Proof.Machine

/-- The new A and flags of an ALU operation with `v` (40_engine.md R188). -/
def aluApply (op : AluOp) (v : Byte) (s : State) : State :=
  (s.setFlags (alu8 op s.a v s.flags.c).2).setReg .a (alu8 op s.a v s.flags.c).1

/-- An ALU operation on a register or on the byte at HL (43_alu8.md section 1). -/
def aluWith (op : AluOp) (o : Operand8) (s : State) : Out :=
  ((readR o s).andThen fun v t => done (aluApply op v t)).out

/-- An ALU operation on an immediate (43_alu8.md section 1). -/
def aluImm (op : AluOp) (n : Byte) (s : State) : Out := .next (aluApply op n s)

/-- INC B (43_alu8.md R294). -/
def execIncB (s : State) : Out := (modifyWithFlags (.reg .b) inc8 s).out

/-- DEC B (43_alu8.md R296). -/
def execDecB (s : State) : Out := (modifyWithFlags (.reg .b) dec8 s).out

/-- INC C (43_alu8.md R294). -/
def execIncC (s : State) : Out := (modifyWithFlags (.reg .c) inc8 s).out

/-- DEC C (43_alu8.md R296). -/
def execDecC (s : State) : Out := (modifyWithFlags (.reg .c) dec8 s).out

/-- INC D (43_alu8.md R294). -/
def execIncD (s : State) : Out := (modifyWithFlags (.reg .d) inc8 s).out

/-- DEC D (43_alu8.md R296). -/
def execDecD (s : State) : Out := (modifyWithFlags (.reg .d) dec8 s).out

/-- INC E (43_alu8.md R294). -/
def execIncE (s : State) : Out := (modifyWithFlags (.reg .e) inc8 s).out

/-- DEC E (43_alu8.md R296). -/
def execDecE (s : State) : Out := (modifyWithFlags (.reg .e) dec8 s).out

/-- INC H (43_alu8.md R294). -/
def execIncH (s : State) : Out := (modifyWithFlags (.reg .h) inc8 s).out

/-- DEC H (43_alu8.md R296). -/
def execDecH (s : State) : Out := (modifyWithFlags (.reg .h) dec8 s).out

/-- DAA (43_alu8.md R298). -/
def execDaa (s : State) : Out := .next ((s.setFlags (daa8 s.a s.flags).2).setReg .a (daa8 s.a s.flags).1)

/-- INC L (43_alu8.md R294). -/
def execIncL (s : State) : Out := (modifyWithFlags (.reg .l) inc8 s).out

/-- DEC L (43_alu8.md R296). -/
def execDecL (s : State) : Out := (modifyWithFlags (.reg .l) dec8 s).out

/-- CPL (43_alu8.md R299). -/
def execCpl (s : State) : Out := .next (((s.setReg .a (~~~s.a)).setFlag .n true).setFlag .h true)

/-- INC (HL) (43_alu8.md R295). -/
def execIncMemHL (s : State) : Out := (modifyWithFlags .memHL inc8 s).out

/-- DEC (HL) (43_alu8.md R297). -/
def execDecMemHL (s : State) : Out := (modifyWithFlags .memHL dec8 s).out

/-- SCF (43_alu8.md R300). -/
def execScf (s : State) : Out := .next (((s.setFlag .n false).setFlag .h false).setFlag .c true)

/-- INC A (43_alu8.md R294). -/
def execIncA (s : State) : Out := (modifyWithFlags (.reg .a) inc8 s).out

/-- DEC A (43_alu8.md R296). -/
def execDecA (s : State) : Out := (modifyWithFlags (.reg .a) dec8 s).out

/-- CCF (43_alu8.md R301). -/
def execCcf (s : State) : Out := .next (((s.setFlag .n false).setFlag .h false).setFlag .c (!s.getFlag .c))

/-- ADD A,B (43_alu8.md R270). -/
def execAddAB (s : State) : Out := aluWith .add (.reg .b) s

/-- ADD A,C (43_alu8.md R270). -/
def execAddAC (s : State) : Out := aluWith .add (.reg .c) s

/-- ADD A,D (43_alu8.md R270). -/
def execAddAD (s : State) : Out := aluWith .add (.reg .d) s

/-- ADD A,E (43_alu8.md R270). -/
def execAddAE (s : State) : Out := aluWith .add (.reg .e) s

/-- ADD A,H (43_alu8.md R270). -/
def execAddAH (s : State) : Out := aluWith .add (.reg .h) s

/-- ADD A,L (43_alu8.md R270). -/
def execAddAL (s : State) : Out := aluWith .add (.reg .l) s

/-- ADD A,(HL) (43_alu8.md R271). -/
def execAddAMemHL (s : State) : Out := aluWith .add .memHL s

/-- ADD A,A (43_alu8.md R270). -/
def execAddAA (s : State) : Out := aluWith .add (.reg .a) s

/-- ADC A,B (43_alu8.md R273). -/
def execAdcAB (s : State) : Out := aluWith .adc (.reg .b) s

/-- ADC A,C (43_alu8.md R273). -/
def execAdcAC (s : State) : Out := aluWith .adc (.reg .c) s

/-- ADC A,D (43_alu8.md R273). -/
def execAdcAD (s : State) : Out := aluWith .adc (.reg .d) s

/-- ADC A,E (43_alu8.md R273). -/
def execAdcAE (s : State) : Out := aluWith .adc (.reg .e) s

/-- ADC A,H (43_alu8.md R273). -/
def execAdcAH (s : State) : Out := aluWith .adc (.reg .h) s

/-- ADC A,L (43_alu8.md R273). -/
def execAdcAL (s : State) : Out := aluWith .adc (.reg .l) s

/-- ADC A,(HL) (43_alu8.md R274). -/
def execAdcAMemHL (s : State) : Out := aluWith .adc .memHL s

/-- ADC A,A (43_alu8.md R273). -/
def execAdcAA (s : State) : Out := aluWith .adc (.reg .a) s

/-- SUB B (43_alu8.md R276). -/
def execSubB (s : State) : Out := aluWith .sub (.reg .b) s

/-- SUB C (43_alu8.md R276). -/
def execSubC (s : State) : Out := aluWith .sub (.reg .c) s

/-- SUB D (43_alu8.md R276). -/
def execSubD (s : State) : Out := aluWith .sub (.reg .d) s

/-- SUB E (43_alu8.md R276). -/
def execSubE (s : State) : Out := aluWith .sub (.reg .e) s

/-- SUB H (43_alu8.md R276). -/
def execSubH (s : State) : Out := aluWith .sub (.reg .h) s

/-- SUB L (43_alu8.md R276). -/
def execSubL (s : State) : Out := aluWith .sub (.reg .l) s

/-- SUB (HL) (43_alu8.md R277). -/
def execSubMemHL (s : State) : Out := aluWith .sub .memHL s

/-- SUB A (43_alu8.md R276). -/
def execSubA (s : State) : Out := aluWith .sub (.reg .a) s

/-- SBC A,B (43_alu8.md R279). -/
def execSbcAB (s : State) : Out := aluWith .sbc (.reg .b) s

/-- SBC A,C (43_alu8.md R279). -/
def execSbcAC (s : State) : Out := aluWith .sbc (.reg .c) s

/-- SBC A,D (43_alu8.md R279). -/
def execSbcAD (s : State) : Out := aluWith .sbc (.reg .d) s

/-- SBC A,E (43_alu8.md R279). -/
def execSbcAE (s : State) : Out := aluWith .sbc (.reg .e) s

/-- SBC A,H (43_alu8.md R279). -/
def execSbcAH (s : State) : Out := aluWith .sbc (.reg .h) s

/-- SBC A,L (43_alu8.md R279). -/
def execSbcAL (s : State) : Out := aluWith .sbc (.reg .l) s

/-- SBC A,(HL) (43_alu8.md R280). -/
def execSbcAMemHL (s : State) : Out := aluWith .sbc .memHL s

/-- SBC A,A (43_alu8.md R279). -/
def execSbcAA (s : State) : Out := aluWith .sbc (.reg .a) s

/-- AND B (43_alu8.md R282). -/
def execAndB (s : State) : Out := aluWith .and (.reg .b) s

/-- AND C (43_alu8.md R282). -/
def execAndC (s : State) : Out := aluWith .and (.reg .c) s

/-- AND D (43_alu8.md R282). -/
def execAndD (s : State) : Out := aluWith .and (.reg .d) s

/-- AND E (43_alu8.md R282). -/
def execAndE (s : State) : Out := aluWith .and (.reg .e) s

/-- AND H (43_alu8.md R282). -/
def execAndH (s : State) : Out := aluWith .and (.reg .h) s

/-- AND L (43_alu8.md R282). -/
def execAndL (s : State) : Out := aluWith .and (.reg .l) s

/-- AND (HL) (43_alu8.md R283). -/
def execAndMemHL (s : State) : Out := aluWith .and .memHL s

/-- AND A (43_alu8.md R282). -/
def execAndA (s : State) : Out := aluWith .and (.reg .a) s

/-- XOR B (43_alu8.md R285). -/
def execXorB (s : State) : Out := aluWith .xor (.reg .b) s

/-- XOR C (43_alu8.md R285). -/
def execXorC (s : State) : Out := aluWith .xor (.reg .c) s

/-- XOR D (43_alu8.md R285). -/
def execXorD (s : State) : Out := aluWith .xor (.reg .d) s

/-- XOR E (43_alu8.md R285). -/
def execXorE (s : State) : Out := aluWith .xor (.reg .e) s

/-- XOR H (43_alu8.md R285). -/
def execXorH (s : State) : Out := aluWith .xor (.reg .h) s

/-- XOR L (43_alu8.md R285). -/
def execXorL (s : State) : Out := aluWith .xor (.reg .l) s

/-- XOR (HL) (43_alu8.md R286). -/
def execXorMemHL (s : State) : Out := aluWith .xor .memHL s

/-- XOR A (43_alu8.md R285). -/
def execXorA (s : State) : Out := aluWith .xor (.reg .a) s

/-- OR B (43_alu8.md R288). -/
def execOrB (s : State) : Out := aluWith .or (.reg .b) s

/-- OR C (43_alu8.md R288). -/
def execOrC (s : State) : Out := aluWith .or (.reg .c) s

/-- OR D (43_alu8.md R288). -/
def execOrD (s : State) : Out := aluWith .or (.reg .d) s

/-- OR E (43_alu8.md R288). -/
def execOrE (s : State) : Out := aluWith .or (.reg .e) s

/-- OR H (43_alu8.md R288). -/
def execOrH (s : State) : Out := aluWith .or (.reg .h) s

/-- OR L (43_alu8.md R288). -/
def execOrL (s : State) : Out := aluWith .or (.reg .l) s

/-- OR (HL) (43_alu8.md R289). -/
def execOrMemHL (s : State) : Out := aluWith .or .memHL s

/-- OR A (43_alu8.md R288). -/
def execOrA (s : State) : Out := aluWith .or (.reg .a) s

/-- CP B (43_alu8.md R291). -/
def execCpB (s : State) : Out := aluWith .cp (.reg .b) s

/-- CP C (43_alu8.md R291). -/
def execCpC (s : State) : Out := aluWith .cp (.reg .c) s

/-- CP D (43_alu8.md R291). -/
def execCpD (s : State) : Out := aluWith .cp (.reg .d) s

/-- CP E (43_alu8.md R291). -/
def execCpE (s : State) : Out := aluWith .cp (.reg .e) s

/-- CP H (43_alu8.md R291). -/
def execCpH (s : State) : Out := aluWith .cp (.reg .h) s

/-- CP L (43_alu8.md R291). -/
def execCpL (s : State) : Out := aluWith .cp (.reg .l) s

/-- CP (HL) (43_alu8.md R292). -/
def execCpMemHL (s : State) : Out := aluWith .cp .memHL s

/-- CP A (43_alu8.md R291). -/
def execCpA (s : State) : Out := aluWith .cp (.reg .a) s

/-- ADD A,n (43_alu8.md R272). -/
def execAddAN (n : Byte) (s : State) : Out := aluImm .add n s

/-- ADC A,n (43_alu8.md R275). -/
def execAdcAN (n : Byte) (s : State) : Out := aluImm .adc n s

/-- SUB n (43_alu8.md R278). -/
def execSubN (n : Byte) (s : State) : Out := aluImm .sub n s

/-- SBC A,n (43_alu8.md R281). -/
def execSbcAN (n : Byte) (s : State) : Out := aluImm .sbc n s

/-- AND n (43_alu8.md R284). -/
def execAndN (n : Byte) (s : State) : Out := aluImm .and n s

/-- XOR n (43_alu8.md R287). -/
def execXorN (n : Byte) (s : State) : Out := aluImm .xor n s

/-- OR n (43_alu8.md R290). -/
def execOrN (n : Byte) (s : State) : Out := aluImm .or n s

/-- CP n (43_alu8.md R293). -/
def execCpN (n : Byte) (s : State) : Out := aluImm .cp n s

end Sys2Proof.Machine
end

