-- ==== Sys2Proof/Machine/Bit.lean ====
section
/-! DEFINITION. Bit test, reset and set (46_bit.md R350-R355). First the shared shapes, then one definition per
row of spec/opcode_table.json. -/

namespace Sys2Proof.Machine

/-- BIT b, on a register or on the byte at HL: flags only (46_bit.md R350, R351). -/
def testBit (b : Fin 8) (o : Operand8) (s : State) : Out :=
  ((readR o s).andThen fun v t => done (t.setFlags (bit8 b v t.flags.c))).out

/-- BIT 0,B (46_bit.md R350). -/
def execBit0B (s : State) : Out := testBit 0 (.reg .b) s

/-- BIT 0,C (46_bit.md R350). -/
def execBit0C (s : State) : Out := testBit 0 (.reg .c) s

/-- BIT 0,D (46_bit.md R350). -/
def execBit0D (s : State) : Out := testBit 0 (.reg .d) s

/-- BIT 0,E (46_bit.md R350). -/
def execBit0E (s : State) : Out := testBit 0 (.reg .e) s

/-- BIT 0,H (46_bit.md R350). -/
def execBit0H (s : State) : Out := testBit 0 (.reg .h) s

/-- BIT 0,L (46_bit.md R350). -/
def execBit0L (s : State) : Out := testBit 0 (.reg .l) s

/-- BIT 0,(HL) (46_bit.md R351). -/
def execBit0MemHL (s : State) : Out := testBit 0 .memHL s

/-- BIT 0,A (46_bit.md R350). -/
def execBit0A (s : State) : Out := testBit 0 (.reg .a) s

/-- BIT 1,B (46_bit.md R350). -/
def execBit1B (s : State) : Out := testBit 1 (.reg .b) s

/-- BIT 1,C (46_bit.md R350). -/
def execBit1C (s : State) : Out := testBit 1 (.reg .c) s

/-- BIT 1,D (46_bit.md R350). -/
def execBit1D (s : State) : Out := testBit 1 (.reg .d) s

/-- BIT 1,E (46_bit.md R350). -/
def execBit1E (s : State) : Out := testBit 1 (.reg .e) s

/-- BIT 1,H (46_bit.md R350). -/
def execBit1H (s : State) : Out := testBit 1 (.reg .h) s

/-- BIT 1,L (46_bit.md R350). -/
def execBit1L (s : State) : Out := testBit 1 (.reg .l) s

/-- BIT 1,(HL) (46_bit.md R351). -/
def execBit1MemHL (s : State) : Out := testBit 1 .memHL s

/-- BIT 1,A (46_bit.md R350). -/
def execBit1A (s : State) : Out := testBit 1 (.reg .a) s

/-- BIT 2,B (46_bit.md R350). -/
def execBit2B (s : State) : Out := testBit 2 (.reg .b) s

/-- BIT 2,C (46_bit.md R350). -/
def execBit2C (s : State) : Out := testBit 2 (.reg .c) s

/-- BIT 2,D (46_bit.md R350). -/
def execBit2D (s : State) : Out := testBit 2 (.reg .d) s

/-- BIT 2,E (46_bit.md R350). -/
def execBit2E (s : State) : Out := testBit 2 (.reg .e) s

/-- BIT 2,H (46_bit.md R350). -/
def execBit2H (s : State) : Out := testBit 2 (.reg .h) s

/-- BIT 2,L (46_bit.md R350). -/
def execBit2L (s : State) : Out := testBit 2 (.reg .l) s

/-- BIT 2,(HL) (46_bit.md R351). -/
def execBit2MemHL (s : State) : Out := testBit 2 .memHL s

/-- BIT 2,A (46_bit.md R350). -/
def execBit2A (s : State) : Out := testBit 2 (.reg .a) s

/-- BIT 3,B (46_bit.md R350). -/
def execBit3B (s : State) : Out := testBit 3 (.reg .b) s

/-- BIT 3,C (46_bit.md R350). -/
def execBit3C (s : State) : Out := testBit 3 (.reg .c) s

/-- BIT 3,D (46_bit.md R350). -/
def execBit3D (s : State) : Out := testBit 3 (.reg .d) s

/-- BIT 3,E (46_bit.md R350). -/
def execBit3E (s : State) : Out := testBit 3 (.reg .e) s

/-- BIT 3,H (46_bit.md R350). -/
def execBit3H (s : State) : Out := testBit 3 (.reg .h) s

/-- BIT 3,L (46_bit.md R350). -/
def execBit3L (s : State) : Out := testBit 3 (.reg .l) s

/-- BIT 3,(HL) (46_bit.md R351). -/
def execBit3MemHL (s : State) : Out := testBit 3 .memHL s

/-- BIT 3,A (46_bit.md R350). -/
def execBit3A (s : State) : Out := testBit 3 (.reg .a) s

/-- BIT 4,B (46_bit.md R350). -/
def execBit4B (s : State) : Out := testBit 4 (.reg .b) s

/-- BIT 4,C (46_bit.md R350). -/
def execBit4C (s : State) : Out := testBit 4 (.reg .c) s

/-- BIT 4,D (46_bit.md R350). -/
def execBit4D (s : State) : Out := testBit 4 (.reg .d) s

/-- BIT 4,E (46_bit.md R350). -/
def execBit4E (s : State) : Out := testBit 4 (.reg .e) s

/-- BIT 4,H (46_bit.md R350). -/
def execBit4H (s : State) : Out := testBit 4 (.reg .h) s

/-- BIT 4,L (46_bit.md R350). -/
def execBit4L (s : State) : Out := testBit 4 (.reg .l) s

/-- BIT 4,(HL) (46_bit.md R351). -/
def execBit4MemHL (s : State) : Out := testBit 4 .memHL s

/-- BIT 4,A (46_bit.md R350). -/
def execBit4A (s : State) : Out := testBit 4 (.reg .a) s

/-- BIT 5,B (46_bit.md R350). -/
def execBit5B (s : State) : Out := testBit 5 (.reg .b) s

/-- BIT 5,C (46_bit.md R350). -/
def execBit5C (s : State) : Out := testBit 5 (.reg .c) s

/-- BIT 5,D (46_bit.md R350). -/
def execBit5D (s : State) : Out := testBit 5 (.reg .d) s

/-- BIT 5,E (46_bit.md R350). -/
def execBit5E (s : State) : Out := testBit 5 (.reg .e) s

/-- BIT 5,H (46_bit.md R350). -/
def execBit5H (s : State) : Out := testBit 5 (.reg .h) s

/-- BIT 5,L (46_bit.md R350). -/
def execBit5L (s : State) : Out := testBit 5 (.reg .l) s

/-- BIT 5,(HL) (46_bit.md R351). -/
def execBit5MemHL (s : State) : Out := testBit 5 .memHL s

/-- BIT 5,A (46_bit.md R350). -/
def execBit5A (s : State) : Out := testBit 5 (.reg .a) s

/-- BIT 6,B (46_bit.md R350). -/
def execBit6B (s : State) : Out := testBit 6 (.reg .b) s

/-- BIT 6,C (46_bit.md R350). -/
def execBit6C (s : State) : Out := testBit 6 (.reg .c) s

/-- BIT 6,D (46_bit.md R350). -/
def execBit6D (s : State) : Out := testBit 6 (.reg .d) s

/-- BIT 6,E (46_bit.md R350). -/
def execBit6E (s : State) : Out := testBit 6 (.reg .e) s

/-- BIT 6,H (46_bit.md R350). -/
def execBit6H (s : State) : Out := testBit 6 (.reg .h) s

/-- BIT 6,L (46_bit.md R350). -/
def execBit6L (s : State) : Out := testBit 6 (.reg .l) s

/-- BIT 6,(HL) (46_bit.md R351). -/
def execBit6MemHL (s : State) : Out := testBit 6 .memHL s

/-- BIT 6,A (46_bit.md R350). -/
def execBit6A (s : State) : Out := testBit 6 (.reg .a) s

/-- BIT 7,B (46_bit.md R350). -/
def execBit7B (s : State) : Out := testBit 7 (.reg .b) s

/-- BIT 7,C (46_bit.md R350). -/
def execBit7C (s : State) : Out := testBit 7 (.reg .c) s

/-- BIT 7,D (46_bit.md R350). -/
def execBit7D (s : State) : Out := testBit 7 (.reg .d) s

/-- BIT 7,E (46_bit.md R350). -/
def execBit7E (s : State) : Out := testBit 7 (.reg .e) s

/-- BIT 7,H (46_bit.md R350). -/
def execBit7H (s : State) : Out := testBit 7 (.reg .h) s

/-- BIT 7,L (46_bit.md R350). -/
def execBit7L (s : State) : Out := testBit 7 (.reg .l) s

/-- BIT 7,(HL) (46_bit.md R351). -/
def execBit7MemHL (s : State) : Out := testBit 7 .memHL s

/-- BIT 7,A (46_bit.md R350). -/
def execBit7A (s : State) : Out := testBit 7 (.reg .a) s

/-- RES 0,B (46_bit.md R352). -/
def execRes0B (s : State) : Out := (modifyPlain (.reg .b) (res8 0) s).out

/-- RES 0,C (46_bit.md R352). -/
def execRes0C (s : State) : Out := (modifyPlain (.reg .c) (res8 0) s).out

/-- RES 0,D (46_bit.md R352). -/
def execRes0D (s : State) : Out := (modifyPlain (.reg .d) (res8 0) s).out

/-- RES 0,E (46_bit.md R352). -/
def execRes0E (s : State) : Out := (modifyPlain (.reg .e) (res8 0) s).out

/-- RES 0,H (46_bit.md R352). -/
def execRes0H (s : State) : Out := (modifyPlain (.reg .h) (res8 0) s).out

/-- RES 0,L (46_bit.md R352). -/
def execRes0L (s : State) : Out := (modifyPlain (.reg .l) (res8 0) s).out

/-- RES 0,(HL) (46_bit.md R353). -/
def execRes0MemHL (s : State) : Out := (modifyPlain .memHL (res8 0) s).out

/-- RES 0,A (46_bit.md R352). -/
def execRes0A (s : State) : Out := (modifyPlain (.reg .a) (res8 0) s).out

/-- RES 1,B (46_bit.md R352). -/
def execRes1B (s : State) : Out := (modifyPlain (.reg .b) (res8 1) s).out

/-- RES 1,C (46_bit.md R352). -/
def execRes1C (s : State) : Out := (modifyPlain (.reg .c) (res8 1) s).out

/-- RES 1,D (46_bit.md R352). -/
def execRes1D (s : State) : Out := (modifyPlain (.reg .d) (res8 1) s).out

/-- RES 1,E (46_bit.md R352). -/
def execRes1E (s : State) : Out := (modifyPlain (.reg .e) (res8 1) s).out

/-- RES 1,H (46_bit.md R352). -/
def execRes1H (s : State) : Out := (modifyPlain (.reg .h) (res8 1) s).out

/-- RES 1,L (46_bit.md R352). -/
def execRes1L (s : State) : Out := (modifyPlain (.reg .l) (res8 1) s).out

/-- RES 1,(HL) (46_bit.md R353). -/
def execRes1MemHL (s : State) : Out := (modifyPlain .memHL (res8 1) s).out

/-- RES 1,A (46_bit.md R352). -/
def execRes1A (s : State) : Out := (modifyPlain (.reg .a) (res8 1) s).out

/-- RES 2,B (46_bit.md R352). -/
def execRes2B (s : State) : Out := (modifyPlain (.reg .b) (res8 2) s).out

/-- RES 2,C (46_bit.md R352). -/
def execRes2C (s : State) : Out := (modifyPlain (.reg .c) (res8 2) s).out

/-- RES 2,D (46_bit.md R352). -/
def execRes2D (s : State) : Out := (modifyPlain (.reg .d) (res8 2) s).out

/-- RES 2,E (46_bit.md R352). -/
def execRes2E (s : State) : Out := (modifyPlain (.reg .e) (res8 2) s).out

/-- RES 2,H (46_bit.md R352). -/
def execRes2H (s : State) : Out := (modifyPlain (.reg .h) (res8 2) s).out

/-- RES 2,L (46_bit.md R352). -/
def execRes2L (s : State) : Out := (modifyPlain (.reg .l) (res8 2) s).out

/-- RES 2,(HL) (46_bit.md R353). -/
def execRes2MemHL (s : State) : Out := (modifyPlain .memHL (res8 2) s).out

/-- RES 2,A (46_bit.md R352). -/
def execRes2A (s : State) : Out := (modifyPlain (.reg .a) (res8 2) s).out

/-- RES 3,B (46_bit.md R352). -/
def execRes3B (s : State) : Out := (modifyPlain (.reg .b) (res8 3) s).out

/-- RES 3,C (46_bit.md R352). -/
def execRes3C (s : State) : Out := (modifyPlain (.reg .c) (res8 3) s).out

/-- RES 3,D (46_bit.md R352). -/
def execRes3D (s : State) : Out := (modifyPlain (.reg .d) (res8 3) s).out

/-- RES 3,E (46_bit.md R352). -/
def execRes3E (s : State) : Out := (modifyPlain (.reg .e) (res8 3) s).out

/-- RES 3,H (46_bit.md R352). -/
def execRes3H (s : State) : Out := (modifyPlain (.reg .h) (res8 3) s).out

/-- RES 3,L (46_bit.md R352). -/
def execRes3L (s : State) : Out := (modifyPlain (.reg .l) (res8 3) s).out

/-- RES 3,(HL) (46_bit.md R353). -/
def execRes3MemHL (s : State) : Out := (modifyPlain .memHL (res8 3) s).out

/-- RES 3,A (46_bit.md R352). -/
def execRes3A (s : State) : Out := (modifyPlain (.reg .a) (res8 3) s).out

/-- RES 4,B (46_bit.md R352). -/
def execRes4B (s : State) : Out := (modifyPlain (.reg .b) (res8 4) s).out

/-- RES 4,C (46_bit.md R352). -/
def execRes4C (s : State) : Out := (modifyPlain (.reg .c) (res8 4) s).out

/-- RES 4,D (46_bit.md R352). -/
def execRes4D (s : State) : Out := (modifyPlain (.reg .d) (res8 4) s).out

/-- RES 4,E (46_bit.md R352). -/
def execRes4E (s : State) : Out := (modifyPlain (.reg .e) (res8 4) s).out

/-- RES 4,H (46_bit.md R352). -/
def execRes4H (s : State) : Out := (modifyPlain (.reg .h) (res8 4) s).out

/-- RES 4,L (46_bit.md R352). -/
def execRes4L (s : State) : Out := (modifyPlain (.reg .l) (res8 4) s).out

/-- RES 4,(HL) (46_bit.md R353). -/
def execRes4MemHL (s : State) : Out := (modifyPlain .memHL (res8 4) s).out

/-- RES 4,A (46_bit.md R352). -/
def execRes4A (s : State) : Out := (modifyPlain (.reg .a) (res8 4) s).out

/-- RES 5,B (46_bit.md R352). -/
def execRes5B (s : State) : Out := (modifyPlain (.reg .b) (res8 5) s).out

/-- RES 5,C (46_bit.md R352). -/
def execRes5C (s : State) : Out := (modifyPlain (.reg .c) (res8 5) s).out

/-- RES 5,D (46_bit.md R352). -/
def execRes5D (s : State) : Out := (modifyPlain (.reg .d) (res8 5) s).out

/-- RES 5,E (46_bit.md R352). -/
def execRes5E (s : State) : Out := (modifyPlain (.reg .e) (res8 5) s).out

/-- RES 5,H (46_bit.md R352). -/
def execRes5H (s : State) : Out := (modifyPlain (.reg .h) (res8 5) s).out

/-- RES 5,L (46_bit.md R352). -/
def execRes5L (s : State) : Out := (modifyPlain (.reg .l) (res8 5) s).out

/-- RES 5,(HL) (46_bit.md R353). -/
def execRes5MemHL (s : State) : Out := (modifyPlain .memHL (res8 5) s).out

/-- RES 5,A (46_bit.md R352). -/
def execRes5A (s : State) : Out := (modifyPlain (.reg .a) (res8 5) s).out

/-- RES 6,B (46_bit.md R352). -/
def execRes6B (s : State) : Out := (modifyPlain (.reg .b) (res8 6) s).out

/-- RES 6,C (46_bit.md R352). -/
def execRes6C (s : State) : Out := (modifyPlain (.reg .c) (res8 6) s).out

/-- RES 6,D (46_bit.md R352). -/
def execRes6D (s : State) : Out := (modifyPlain (.reg .d) (res8 6) s).out

/-- RES 6,E (46_bit.md R352). -/
def execRes6E (s : State) : Out := (modifyPlain (.reg .e) (res8 6) s).out

/-- RES 6,H (46_bit.md R352). -/
def execRes6H (s : State) : Out := (modifyPlain (.reg .h) (res8 6) s).out

/-- RES 6,L (46_bit.md R352). -/
def execRes6L (s : State) : Out := (modifyPlain (.reg .l) (res8 6) s).out

/-- RES 6,(HL) (46_bit.md R353). -/
def execRes6MemHL (s : State) : Out := (modifyPlain .memHL (res8 6) s).out

/-- RES 6,A (46_bit.md R352). -/
def execRes6A (s : State) : Out := (modifyPlain (.reg .a) (res8 6) s).out

/-- RES 7,B (46_bit.md R352). -/
def execRes7B (s : State) : Out := (modifyPlain (.reg .b) (res8 7) s).out

/-- RES 7,C (46_bit.md R352). -/
def execRes7C (s : State) : Out := (modifyPlain (.reg .c) (res8 7) s).out

/-- RES 7,D (46_bit.md R352). -/
def execRes7D (s : State) : Out := (modifyPlain (.reg .d) (res8 7) s).out

/-- RES 7,E (46_bit.md R352). -/
def execRes7E (s : State) : Out := (modifyPlain (.reg .e) (res8 7) s).out

/-- RES 7,H (46_bit.md R352). -/
def execRes7H (s : State) : Out := (modifyPlain (.reg .h) (res8 7) s).out

/-- RES 7,L (46_bit.md R352). -/
def execRes7L (s : State) : Out := (modifyPlain (.reg .l) (res8 7) s).out

/-- RES 7,(HL) (46_bit.md R353). -/
def execRes7MemHL (s : State) : Out := (modifyPlain .memHL (res8 7) s).out

/-- RES 7,A (46_bit.md R352). -/
def execRes7A (s : State) : Out := (modifyPlain (.reg .a) (res8 7) s).out

/-- SET 0,B (46_bit.md R354). -/
def execSet0B (s : State) : Out := (modifyPlain (.reg .b) (set8 0) s).out

/-- SET 0,C (46_bit.md R354). -/
def execSet0C (s : State) : Out := (modifyPlain (.reg .c) (set8 0) s).out

/-- SET 0,D (46_bit.md R354). -/
def execSet0D (s : State) : Out := (modifyPlain (.reg .d) (set8 0) s).out

/-- SET 0,E (46_bit.md R354). -/
def execSet0E (s : State) : Out := (modifyPlain (.reg .e) (set8 0) s).out

/-- SET 0,H (46_bit.md R354). -/
def execSet0H (s : State) : Out := (modifyPlain (.reg .h) (set8 0) s).out

/-- SET 0,L (46_bit.md R354). -/
def execSet0L (s : State) : Out := (modifyPlain (.reg .l) (set8 0) s).out

/-- SET 0,(HL) (46_bit.md R355). -/
def execSet0MemHL (s : State) : Out := (modifyPlain .memHL (set8 0) s).out

/-- SET 0,A (46_bit.md R354). -/
def execSet0A (s : State) : Out := (modifyPlain (.reg .a) (set8 0) s).out

/-- SET 1,B (46_bit.md R354). -/
def execSet1B (s : State) : Out := (modifyPlain (.reg .b) (set8 1) s).out

/-- SET 1,C (46_bit.md R354). -/
def execSet1C (s : State) : Out := (modifyPlain (.reg .c) (set8 1) s).out

/-- SET 1,D (46_bit.md R354). -/
def execSet1D (s : State) : Out := (modifyPlain (.reg .d) (set8 1) s).out

/-- SET 1,E (46_bit.md R354). -/
def execSet1E (s : State) : Out := (modifyPlain (.reg .e) (set8 1) s).out

/-- SET 1,H (46_bit.md R354). -/
def execSet1H (s : State) : Out := (modifyPlain (.reg .h) (set8 1) s).out

/-- SET 1,L (46_bit.md R354). -/
def execSet1L (s : State) : Out := (modifyPlain (.reg .l) (set8 1) s).out

/-- SET 1,(HL) (46_bit.md R355). -/
def execSet1MemHL (s : State) : Out := (modifyPlain .memHL (set8 1) s).out

/-- SET 1,A (46_bit.md R354). -/
def execSet1A (s : State) : Out := (modifyPlain (.reg .a) (set8 1) s).out

/-- SET 2,B (46_bit.md R354). -/
def execSet2B (s : State) : Out := (modifyPlain (.reg .b) (set8 2) s).out

/-- SET 2,C (46_bit.md R354). -/
def execSet2C (s : State) : Out := (modifyPlain (.reg .c) (set8 2) s).out

/-- SET 2,D (46_bit.md R354). -/
def execSet2D (s : State) : Out := (modifyPlain (.reg .d) (set8 2) s).out

/-- SET 2,E (46_bit.md R354). -/
def execSet2E (s : State) : Out := (modifyPlain (.reg .e) (set8 2) s).out

/-- SET 2,H (46_bit.md R354). -/
def execSet2H (s : State) : Out := (modifyPlain (.reg .h) (set8 2) s).out

/-- SET 2,L (46_bit.md R354). -/
def execSet2L (s : State) : Out := (modifyPlain (.reg .l) (set8 2) s).out

/-- SET 2,(HL) (46_bit.md R355). -/
def execSet2MemHL (s : State) : Out := (modifyPlain .memHL (set8 2) s).out

/-- SET 2,A (46_bit.md R354). -/
def execSet2A (s : State) : Out := (modifyPlain (.reg .a) (set8 2) s).out

/-- SET 3,B (46_bit.md R354). -/
def execSet3B (s : State) : Out := (modifyPlain (.reg .b) (set8 3) s).out

/-- SET 3,C (46_bit.md R354). -/
def execSet3C (s : State) : Out := (modifyPlain (.reg .c) (set8 3) s).out

/-- SET 3,D (46_bit.md R354). -/
def execSet3D (s : State) : Out := (modifyPlain (.reg .d) (set8 3) s).out

/-- SET 3,E (46_bit.md R354). -/
def execSet3E (s : State) : Out := (modifyPlain (.reg .e) (set8 3) s).out

/-- SET 3,H (46_bit.md R354). -/
def execSet3H (s : State) : Out := (modifyPlain (.reg .h) (set8 3) s).out

/-- SET 3,L (46_bit.md R354). -/
def execSet3L (s : State) : Out := (modifyPlain (.reg .l) (set8 3) s).out

/-- SET 3,(HL) (46_bit.md R355). -/
def execSet3MemHL (s : State) : Out := (modifyPlain .memHL (set8 3) s).out

/-- SET 3,A (46_bit.md R354). -/
def execSet3A (s : State) : Out := (modifyPlain (.reg .a) (set8 3) s).out

/-- SET 4,B (46_bit.md R354). -/
def execSet4B (s : State) : Out := (modifyPlain (.reg .b) (set8 4) s).out

/-- SET 4,C (46_bit.md R354). -/
def execSet4C (s : State) : Out := (modifyPlain (.reg .c) (set8 4) s).out

/-- SET 4,D (46_bit.md R354). -/
def execSet4D (s : State) : Out := (modifyPlain (.reg .d) (set8 4) s).out

/-- SET 4,E (46_bit.md R354). -/
def execSet4E (s : State) : Out := (modifyPlain (.reg .e) (set8 4) s).out

/-- SET 4,H (46_bit.md R354). -/
def execSet4H (s : State) : Out := (modifyPlain (.reg .h) (set8 4) s).out

/-- SET 4,L (46_bit.md R354). -/
def execSet4L (s : State) : Out := (modifyPlain (.reg .l) (set8 4) s).out

/-- SET 4,(HL) (46_bit.md R355). -/
def execSet4MemHL (s : State) : Out := (modifyPlain .memHL (set8 4) s).out

/-- SET 4,A (46_bit.md R354). -/
def execSet4A (s : State) : Out := (modifyPlain (.reg .a) (set8 4) s).out

/-- SET 5,B (46_bit.md R354). -/
def execSet5B (s : State) : Out := (modifyPlain (.reg .b) (set8 5) s).out

/-- SET 5,C (46_bit.md R354). -/
def execSet5C (s : State) : Out := (modifyPlain (.reg .c) (set8 5) s).out

/-- SET 5,D (46_bit.md R354). -/
def execSet5D (s : State) : Out := (modifyPlain (.reg .d) (set8 5) s).out

/-- SET 5,E (46_bit.md R354). -/
def execSet5E (s : State) : Out := (modifyPlain (.reg .e) (set8 5) s).out

/-- SET 5,H (46_bit.md R354). -/
def execSet5H (s : State) : Out := (modifyPlain (.reg .h) (set8 5) s).out

/-- SET 5,L (46_bit.md R354). -/
def execSet5L (s : State) : Out := (modifyPlain (.reg .l) (set8 5) s).out

/-- SET 5,(HL) (46_bit.md R355). -/
def execSet5MemHL (s : State) : Out := (modifyPlain .memHL (set8 5) s).out

/-- SET 5,A (46_bit.md R354). -/
def execSet5A (s : State) : Out := (modifyPlain (.reg .a) (set8 5) s).out

/-- SET 6,B (46_bit.md R354). -/
def execSet6B (s : State) : Out := (modifyPlain (.reg .b) (set8 6) s).out

/-- SET 6,C (46_bit.md R354). -/
def execSet6C (s : State) : Out := (modifyPlain (.reg .c) (set8 6) s).out

/-- SET 6,D (46_bit.md R354). -/
def execSet6D (s : State) : Out := (modifyPlain (.reg .d) (set8 6) s).out

/-- SET 6,E (46_bit.md R354). -/
def execSet6E (s : State) : Out := (modifyPlain (.reg .e) (set8 6) s).out

/-- SET 6,H (46_bit.md R354). -/
def execSet6H (s : State) : Out := (modifyPlain (.reg .h) (set8 6) s).out

/-- SET 6,L (46_bit.md R354). -/
def execSet6L (s : State) : Out := (modifyPlain (.reg .l) (set8 6) s).out

/-- SET 6,(HL) (46_bit.md R355). -/
def execSet6MemHL (s : State) : Out := (modifyPlain .memHL (set8 6) s).out

/-- SET 6,A (46_bit.md R354). -/
def execSet6A (s : State) : Out := (modifyPlain (.reg .a) (set8 6) s).out

/-- SET 7,B (46_bit.md R354). -/
def execSet7B (s : State) : Out := (modifyPlain (.reg .b) (set8 7) s).out

/-- SET 7,C (46_bit.md R354). -/
def execSet7C (s : State) : Out := (modifyPlain (.reg .c) (set8 7) s).out

/-- SET 7,D (46_bit.md R354). -/
def execSet7D (s : State) : Out := (modifyPlain (.reg .d) (set8 7) s).out

/-- SET 7,E (46_bit.md R354). -/
def execSet7E (s : State) : Out := (modifyPlain (.reg .e) (set8 7) s).out

/-- SET 7,H (46_bit.md R354). -/
def execSet7H (s : State) : Out := (modifyPlain (.reg .h) (set8 7) s).out

/-- SET 7,L (46_bit.md R354). -/
def execSet7L (s : State) : Out := (modifyPlain (.reg .l) (set8 7) s).out

/-- SET 7,(HL) (46_bit.md R355). -/
def execSet7MemHL (s : State) : Out := (modifyPlain .memHL (set8 7) s).out

/-- SET 7,A (46_bit.md R354). -/
def execSet7A (s : State) : Out := (modifyPlain (.reg .a) (set8 7) s).out

end Sys2Proof.Machine
end

