-- ==== Sys2Proof/Machine/Control.lean ====
section
/-! DEFINITION. Jumps, calls and returns (47_control.md R360-R370). PC already holds the address after the instruction. First the shared shapes, then one definition per
row of spec/opcode_table.json. -/

namespace Sys2Proof.Machine

/-- A jump, taken if the condition holds (47_control.md R360-R364). -/
def jumpIf (taken : Bool) (target : Word) (s : State) : Out :=
  .next (if taken then { s with pc := target } else s)

/-- A call, made if the condition holds: push PC, then jump (47_control.md R365, R366, R370). -/
def callIf (taken : Bool) (target : Word) (s : State) : Out :=
  if taken then ((push16 s.pc s).andThen fun _ t => done { t with pc := target }).out else .next s

/-- A return, made if the condition holds: pop PC (47_control.md R367, R368). -/
def retIf (taken : Bool) (s : State) : Out :=
  if taken then ((pop16 s).andThen fun v t => done { t with pc := v }).out else .next s

/-- JR e (47_control.md R363). -/
def execJrE8 (e : Byte) (s : State) : Out := jumpIf true (s.pc + sext16 e) s

/-- JR NZ,e (47_control.md R364). -/
def execJrNZE8 (e : Byte) (s : State) : Out := jumpIf (cond .nz s) (s.pc + sext16 e) s

/-- JR Z,e (47_control.md R364). -/
def execJrZE8 (e : Byte) (s : State) : Out := jumpIf (cond .z s) (s.pc + sext16 e) s

/-- JR NC,e (47_control.md R364). -/
def execJrNCE8 (e : Byte) (s : State) : Out := jumpIf (cond .nc s) (s.pc + sext16 e) s

/-- JR C,e (47_control.md R364). -/
def execJrCE8 (e : Byte) (s : State) : Out := jumpIf (cond .c s) (s.pc + sext16 e) s

/-- RET NZ (47_control.md R368). -/
def execRetNZ (s : State) : Out := retIf (cond .nz s) s

/-- JP NZ,nn (47_control.md R361). -/
def execJpNZNn (nn : Word) (s : State) : Out := jumpIf (cond .nz s) nn s

/-- JP nn (47_control.md R360). -/
def execJpNn (nn : Word) (s : State) : Out := jumpIf true nn s

/-- CALL NZ,nn (47_control.md R366). -/
def execCallNZNn (nn : Word) (s : State) : Out := callIf (cond .nz s) nn s

/-- RST 0x00 (47_control.md R370). -/
def execRst00 (s : State) : Out := callIf true 0x0000 s

/-- RET Z (47_control.md R368). -/
def execRetZ (s : State) : Out := retIf (cond .z s) s

/-- RET (47_control.md R367). -/
def execRet (s : State) : Out := retIf true s

/-- JP Z,nn (47_control.md R361). -/
def execJpZNn (nn : Word) (s : State) : Out := jumpIf (cond .z s) nn s

/-- CALL Z,nn (47_control.md R366). -/
def execCallZNn (nn : Word) (s : State) : Out := callIf (cond .z s) nn s

/-- CALL nn (47_control.md R365). -/
def execCallNn (nn : Word) (s : State) : Out := callIf true nn s

/-- RST 0x08 (47_control.md R370). -/
def execRst08 (s : State) : Out := callIf true 0x0008 s

/-- RET NC (47_control.md R368). -/
def execRetNC (s : State) : Out := retIf (cond .nc s) s

/-- JP NC,nn (47_control.md R361). -/
def execJpNCNn (nn : Word) (s : State) : Out := jumpIf (cond .nc s) nn s

/-- CALL NC,nn (47_control.md R366). -/
def execCallNCNn (nn : Word) (s : State) : Out := callIf (cond .nc s) nn s

/-- RST 0x10 (47_control.md R370). -/
def execRst10 (s : State) : Out := callIf true 0x0010 s

/-- RET C (47_control.md R368). -/
def execRetC (s : State) : Out := retIf (cond .c s) s

/-- RETI (47_control.md R369). -/
def execReti (s : State) : Out := (returnFromInterrupt s).out

/-- JP C,nn (47_control.md R361). -/
def execJpCNn (nn : Word) (s : State) : Out := jumpIf (cond .c s) nn s

/-- CALL C,nn (47_control.md R366). -/
def execCallCNn (nn : Word) (s : State) : Out := callIf (cond .c s) nn s

/-- RST 0x18 (47_control.md R370). -/
def execRst18 (s : State) : Out := callIf true 0x0018 s

/-- RST 0x20 (47_control.md R370). -/
def execRst20 (s : State) : Out := callIf true 0x0020 s

/-- JP HL (47_control.md R362). -/
def execJpHL (s : State) : Out := jumpIf true s.hl s

/-- RST 0x28 (47_control.md R370). -/
def execRst28 (s : State) : Out := callIf true 0x0028 s

/-- RST 0x30 (47_control.md R370). -/
def execRst30 (s : State) : Out := callIf true 0x0030 s

/-- RST 0x38 (47_control.md R370). -/
def execRst38 (s : State) : Out := callIf true 0x0038 s

end Sys2Proof.Machine
end

