-- ==== Sys2Proof/Machine/CpuControl.lean ====
section
/-! DEFINITION. CPU control and the illegal opcodes (48_cpu_control.md R380-R385). First the shared shapes, then one definition per
row of spec/opcode_table.json. -/

namespace Sys2Proof.Machine

/-- HALT: Unmodelled(HaltBug) with dispatch on, `ime` clear and a source pending; otherwise Halted
(48_cpu_control.md R381). -/
def haltOrRaise (s : State) : Out :=
  if s.cfg.interruptDispatch ∧ s.ime = false ∧ pending s ≠ 0 then
    (raise (.unmodelled .haltBug) s : Res Unit).out
  else .next { s with halted := true }

/-- An illegal opcode: UnimplementedOpcode with the byte and the address it was fetched from, one before PC
(48_cpu_control.md R385, 40_engine.md R176). -/
def illegal (opcode : Byte) (s : State) : Out :=
  (raise (.unimplementedOpcode opcode (s.pc - 1)) s : Res Unit).out

/-- NOP (48_cpu_control.md R380). -/
def execNop (s : State) : Out := .next s

/-- STOP (48_cpu_control.md R382). -/
def execStop (s : State) : Out := (raise (.unmodelled .stop) s : Res Unit).out

/-- HALT (48_cpu_control.md R381). -/
def execHalt (s : State) : Out := haltOrRaise s

/-- ILLEGAL_D3 (48_cpu_control.md R385). -/
def execIllegalD3 (s : State) : Out := illegal 0xD3 s

/-- ILLEGAL_DB (48_cpu_control.md R385). -/
def execIllegalDB (s : State) : Out := illegal 0xDB s

/-- ILLEGAL_DD (48_cpu_control.md R385). -/
def execIllegalDD (s : State) : Out := illegal 0xDD s

/-- ILLEGAL_E3 (48_cpu_control.md R385). -/
def execIllegalE3 (s : State) : Out := illegal 0xE3 s

/-- ILLEGAL_E4 (48_cpu_control.md R385). -/
def execIllegalE4 (s : State) : Out := illegal 0xE4 s

/-- ILLEGAL_EB (48_cpu_control.md R385). -/
def execIllegalEB (s : State) : Out := illegal 0xEB s

/-- ILLEGAL_EC (48_cpu_control.md R385). -/
def execIllegalEC (s : State) : Out := illegal 0xEC s

/-- ILLEGAL_ED (48_cpu_control.md R385). -/
def execIllegalED (s : State) : Out := illegal 0xED s

/-- DI (48_cpu_control.md R383). -/
def execDi (s : State) : Out := .next { s with ime := false, imeDelay := 0 }

/-- ILLEGAL_F4 (48_cpu_control.md R385). -/
def execIllegalF4 (s : State) : Out := illegal 0xF4 s

/-- EI (48_cpu_control.md R384). -/
def execEi (s : State) : Out := .next { s with imeDelay := 2 }

/-- ILLEGAL_FC (48_cpu_control.md R385). -/
def execIllegalFC (s : State) : Out := illegal 0xFC s

/-- ILLEGAL_FD (48_cpu_control.md R385). -/
def execIllegalFD (s : State) : Out := illegal 0xFD s

end Sys2Proof.Machine
end

