-- ==== Sys2Proof/Machine/Load16.lean ====
section
/-! DEFINITION. The 16-bit loads and the stack (42_load16_stack.md R250-R255). First the shared shapes, then one definition per
row of spec/opcode_table.json. -/

namespace Sys2Proof.Machine

/-- LD rr,nn (42_load16_stack.md R250). -/
def ldPairImm (p : Pair) (nn : Word) (s : State) : Out := .next (s.setPair p nn)

/-- PUSH rr (42_load16_stack.md R253). -/
def pushPair (p : StackPair) (s : State) : Out := (push16 (s.stackPair p) s).out

/-- POP rr (42_load16_stack.md R254). -/
def popPair (p : StackPair) (s : State) : Out :=
  ((pop16 s).andThen fun v t => done (t.setStackPair p v)).out

/-- LD BC,nn (42_load16_stack.md R250). -/
def execLdBCNn (nn : Word) (s : State) : Out := ldPairImm .bc nn s

/-- LD (nn),SP (42_load16_stack.md R251). -/
def execLdMemNnSP (nn : Word) (s : State) : Out := (memWrite16 nn s.sp s).out

/-- LD DE,nn (42_load16_stack.md R250). -/
def execLdDENn (nn : Word) (s : State) : Out := ldPairImm .de nn s

/-- LD HL,nn (42_load16_stack.md R250). -/
def execLdHLNn (nn : Word) (s : State) : Out := ldPairImm .hl nn s

/-- LD SP,nn (42_load16_stack.md R250). -/
def execLdSPNn (nn : Word) (s : State) : Out := ldPairImm .sp nn s

/-- POP BC (42_load16_stack.md R254). -/
def execPopBC (s : State) : Out := popPair .bc s

/-- PUSH BC (42_load16_stack.md R253). -/
def execPushBC (s : State) : Out := pushPair .bc s

/-- POP DE (42_load16_stack.md R254). -/
def execPopDE (s : State) : Out := popPair .de s

/-- PUSH DE (42_load16_stack.md R253). -/
def execPushDE (s : State) : Out := pushPair .de s

/-- POP HL (42_load16_stack.md R254). -/
def execPopHL (s : State) : Out := popPair .hl s

/-- PUSH HL (42_load16_stack.md R253). -/
def execPushHL (s : State) : Out := pushPair .hl s

/-- POP AF (42_load16_stack.md R254). -/
def execPopAF (s : State) : Out := popPair .af s

/-- PUSH AF (42_load16_stack.md R253). -/
def execPushAF (s : State) : Out := pushPair .af s

/-- LD HL,SP+e (42_load16_stack.md R255). -/
def execLdHLSPE8 (e : Byte) (s : State) : Out := .next ((s.setFlags (addSpE s.sp e).2).setHL (addSpE s.sp e).1)

/-- LD SP,HL (42_load16_stack.md R252). -/
def execLdSPHL (s : State) : Out := .next { s with sp := s.hl }

end Sys2Proof.Machine
end

