-- ==== Sys2Proof/Machine/Load8.lean ====
section
/-! DEFINITION. The 8-bit loads (41_load8.md R220-R238). No form writes a flag. First the shared shapes, then one definition per
row of spec/opcode_table.json. -/

namespace Sys2Proof.Machine

/-- LD r,r' (41_load8.md R220). -/
def ldRegReg (dst src : Reg8) (s : State) : Out := .next (s.setReg dst (s.reg src))

/-- LD r,n (41_load8.md R221). -/
def ldRegImm (dst : Reg8) (n : Byte) (s : State) : Out := .next (s.setReg dst n)

/-- A register from the byte at an address (41_load8.md R222, R225, R226, R229, R231, R233). -/
def ldRegFrom (dst : Reg8) (addr : Word) (s : State) : Out :=
  ((memRead addr s).andThen fun v t => done (t.setReg dst v)).out

/-- A byte to an address (41_load8.md R223, R224, R227, R228, R230, R232, R234). -/
def store (addr : Word) (v : Byte) (s : State) : Out := (memWrite addr v s).out

/-- LD A,(HL+) and LD A,(HL-): HL moves after the read (41_load8.md R235, R236). -/
def ldAStep (step : Word) (s : State) : Out :=
  ((memRead s.hl s).andThen fun v t => done ((t.setReg .a v).setHL (s.hl + step))).out

/-- LD (HL+),A and LD (HL-),A: HL moves after the write (41_load8.md R237, R238). -/
def storeAStep (step : Word) (s : State) : Out :=
  ((memWrite s.hl s.a s).andThen fun _ t => done (t.setHL (s.hl + step))).out

/-- LD (BC),A (41_load8.md R227). -/
def execLdMemBCA (s : State) : Out := store s.bc s.a s

/-- LD B,n (41_load8.md R221). -/
def execLdBN (n : Byte) (s : State) : Out := ldRegImm .b n s

/-- LD A,(BC) (41_load8.md R225). -/
def execLdAMemBC (s : State) : Out := ldRegFrom .a s.bc s

/-- LD C,n (41_load8.md R221). -/
def execLdCN (n : Byte) (s : State) : Out := ldRegImm .c n s

/-- LD (DE),A (41_load8.md R228). -/
def execLdMemDEA (s : State) : Out := store s.de s.a s

/-- LD D,n (41_load8.md R221). -/
def execLdDN (n : Byte) (s : State) : Out := ldRegImm .d n s

/-- LD A,(DE) (41_load8.md R226). -/
def execLdAMemDE (s : State) : Out := ldRegFrom .a s.de s

/-- LD E,n (41_load8.md R221). -/
def execLdEN (n : Byte) (s : State) : Out := ldRegImm .e n s

/-- LD (HL+),A (41_load8.md R237). -/
def execLdMemHLIncA (s : State) : Out := storeAStep 1 s

/-- LD H,n (41_load8.md R221). -/
def execLdHN (n : Byte) (s : State) : Out := ldRegImm .h n s

/-- LD A,(HL+) (41_load8.md R235). -/
def execLdAMemHLInc (s : State) : Out := ldAStep 1 s

/-- LD L,n (41_load8.md R221). -/
def execLdLN (n : Byte) (s : State) : Out := ldRegImm .l n s

/-- LD (HL-),A (41_load8.md R238). -/
def execLdMemHLDecA (s : State) : Out := storeAStep (-1) s

/-- LD (HL),n (41_load8.md R224). -/
def execLdMemHLN (n : Byte) (s : State) : Out := store s.hl n s

/-- LD A,(HL-) (41_load8.md R236). -/
def execLdAMemHLDec (s : State) : Out := ldAStep (-1) s

/-- LD A,n (41_load8.md R221). -/
def execLdAN (n : Byte) (s : State) : Out := ldRegImm .a n s

/-- LD B,B (41_load8.md R220). -/
def execLdBB (s : State) : Out := ldRegReg .b .b s

/-- LD B,C (41_load8.md R220). -/
def execLdBC (s : State) : Out := ldRegReg .b .c s

/-- LD B,D (41_load8.md R220). -/
def execLdBD (s : State) : Out := ldRegReg .b .d s

/-- LD B,E (41_load8.md R220). -/
def execLdBE (s : State) : Out := ldRegReg .b .e s

/-- LD B,H (41_load8.md R220). -/
def execLdBH (s : State) : Out := ldRegReg .b .h s

/-- LD B,L (41_load8.md R220). -/
def execLdBL (s : State) : Out := ldRegReg .b .l s

/-- LD B,(HL) (41_load8.md R222). -/
def execLdBMemHL (s : State) : Out := ldRegFrom .b s.hl s

/-- LD B,A (41_load8.md R220). -/
def execLdBA (s : State) : Out := ldRegReg .b .a s

/-- LD C,B (41_load8.md R220). -/
def execLdCB (s : State) : Out := ldRegReg .c .b s

/-- LD C,C (41_load8.md R220). -/
def execLdCC (s : State) : Out := ldRegReg .c .c s

/-- LD C,D (41_load8.md R220). -/
def execLdCD (s : State) : Out := ldRegReg .c .d s

/-- LD C,E (41_load8.md R220). -/
def execLdCE (s : State) : Out := ldRegReg .c .e s

/-- LD C,H (41_load8.md R220). -/
def execLdCH (s : State) : Out := ldRegReg .c .h s

/-- LD C,L (41_load8.md R220). -/
def execLdCL (s : State) : Out := ldRegReg .c .l s

/-- LD C,(HL) (41_load8.md R222). -/
def execLdCMemHL (s : State) : Out := ldRegFrom .c s.hl s

/-- LD C,A (41_load8.md R220). -/
def execLdCA (s : State) : Out := ldRegReg .c .a s

/-- LD D,B (41_load8.md R220). -/
def execLdDB (s : State) : Out := ldRegReg .d .b s

/-- LD D,C (41_load8.md R220). -/
def execLdDC (s : State) : Out := ldRegReg .d .c s

/-- LD D,D (41_load8.md R220). -/
def execLdDD (s : State) : Out := ldRegReg .d .d s

/-- LD D,E (41_load8.md R220). -/
def execLdDE (s : State) : Out := ldRegReg .d .e s

/-- LD D,H (41_load8.md R220). -/
def execLdDH (s : State) : Out := ldRegReg .d .h s

/-- LD D,L (41_load8.md R220). -/
def execLdDL (s : State) : Out := ldRegReg .d .l s

/-- LD D,(HL) (41_load8.md R222). -/
def execLdDMemHL (s : State) : Out := ldRegFrom .d s.hl s

/-- LD D,A (41_load8.md R220). -/
def execLdDA (s : State) : Out := ldRegReg .d .a s

/-- LD E,B (41_load8.md R220). -/
def execLdEB (s : State) : Out := ldRegReg .e .b s

/-- LD E,C (41_load8.md R220). -/
def execLdEC (s : State) : Out := ldRegReg .e .c s

/-- LD E,D (41_load8.md R220). -/
def execLdED (s : State) : Out := ldRegReg .e .d s

/-- LD E,E (41_load8.md R220). -/
def execLdEE (s : State) : Out := ldRegReg .e .e s

/-- LD E,H (41_load8.md R220). -/
def execLdEH (s : State) : Out := ldRegReg .e .h s

/-- LD E,L (41_load8.md R220). -/
def execLdEL (s : State) : Out := ldRegReg .e .l s

/-- LD E,(HL) (41_load8.md R222). -/
def execLdEMemHL (s : State) : Out := ldRegFrom .e s.hl s

/-- LD E,A (41_load8.md R220). -/
def execLdEA (s : State) : Out := ldRegReg .e .a s

/-- LD H,B (41_load8.md R220). -/
def execLdHB (s : State) : Out := ldRegReg .h .b s

/-- LD H,C (41_load8.md R220). -/
def execLdHC (s : State) : Out := ldRegReg .h .c s

/-- LD H,D (41_load8.md R220). -/
def execLdHD (s : State) : Out := ldRegReg .h .d s

/-- LD H,E (41_load8.md R220). -/
def execLdHE (s : State) : Out := ldRegReg .h .e s

/-- LD H,H (41_load8.md R220). -/
def execLdHH (s : State) : Out := ldRegReg .h .h s

/-- LD H,L (41_load8.md R220). -/
def execLdHL (s : State) : Out := ldRegReg .h .l s

/-- LD H,(HL) (41_load8.md R222). -/
def execLdHMemHL (s : State) : Out := ldRegFrom .h s.hl s

/-- LD H,A (41_load8.md R220). -/
def execLdHA (s : State) : Out := ldRegReg .h .a s

/-- LD L,B (41_load8.md R220). -/
def execLdLB (s : State) : Out := ldRegReg .l .b s

/-- LD L,C (41_load8.md R220). -/
def execLdLC (s : State) : Out := ldRegReg .l .c s

/-- LD L,D (41_load8.md R220). -/
def execLdLD (s : State) : Out := ldRegReg .l .d s

/-- LD L,E (41_load8.md R220). -/
def execLdLE (s : State) : Out := ldRegReg .l .e s

/-- LD L,H (41_load8.md R220). -/
def execLdLH (s : State) : Out := ldRegReg .l .h s

/-- LD L,L (41_load8.md R220). -/
def execLdLL (s : State) : Out := ldRegReg .l .l s

/-- LD L,(HL) (41_load8.md R222). -/
def execLdLMemHL (s : State) : Out := ldRegFrom .l s.hl s

/-- LD L,A (41_load8.md R220). -/
def execLdLA (s : State) : Out := ldRegReg .l .a s

/-- LD (HL),B (41_load8.md R223). -/
def execLdMemHLB (s : State) : Out := store s.hl (s.reg .b) s

/-- LD (HL),C (41_load8.md R223). -/
def execLdMemHLC (s : State) : Out := store s.hl (s.reg .c) s

/-- LD (HL),D (41_load8.md R223). -/
def execLdMemHLD (s : State) : Out := store s.hl (s.reg .d) s

/-- LD (HL),E (41_load8.md R223). -/
def execLdMemHLE (s : State) : Out := store s.hl (s.reg .e) s

/-- LD (HL),H (41_load8.md R223). -/
def execLdMemHLH (s : State) : Out := store s.hl (s.reg .h) s

/-- LD (HL),L (41_load8.md R223). -/
def execLdMemHLL (s : State) : Out := store s.hl (s.reg .l) s

/-- LD (HL),A (41_load8.md R223). -/
def execLdMemHLA (s : State) : Out := store s.hl (s.reg .a) s

/-- LD A,B (41_load8.md R220). -/
def execLdAB (s : State) : Out := ldRegReg .a .b s

/-- LD A,C (41_load8.md R220). -/
def execLdAC (s : State) : Out := ldRegReg .a .c s

/-- LD A,D (41_load8.md R220). -/
def execLdAD (s : State) : Out := ldRegReg .a .d s

/-- LD A,E (41_load8.md R220). -/
def execLdAE (s : State) : Out := ldRegReg .a .e s

/-- LD A,H (41_load8.md R220). -/
def execLdAH (s : State) : Out := ldRegReg .a .h s

/-- LD A,L (41_load8.md R220). -/
def execLdAL (s : State) : Out := ldRegReg .a .l s

/-- LD A,(HL) (41_load8.md R222). -/
def execLdAMemHL (s : State) : Out := ldRegFrom .a s.hl s

/-- LD A,A (41_load8.md R220). -/
def execLdAA (s : State) : Out := ldRegReg .a .a s

/-- LDH (n),A (41_load8.md R234). -/
def execLdhMemNA (n : Byte) (s : State) : Out := store (highPage n) s.a s

/-- LD (C),A (41_load8.md R232). -/
def execLdMemCA (s : State) : Out := store (highPage s.c) s.a s

/-- LD (nn),A (41_load8.md R230). -/
def execLdMemNnA (nn : Word) (s : State) : Out := store nn s.a s

/-- LDH A,(n) (41_load8.md R233). -/
def execLdhAMemN (n : Byte) (s : State) : Out := ldRegFrom .a (highPage n) s

/-- LD A,(C) (41_load8.md R231). -/
def execLdAMemC (s : State) : Out := ldRegFrom .a (highPage s.c) s

/-- LD A,(nn) (41_load8.md R229). -/
def execLdAMemNn (nn : Word) (s : State) : Out := ldRegFrom .a nn s

end Sys2Proof.Machine
end

