-- ==== Sys2Proof/Machine/Prefix.lean ====
section
/-! DEFINITION. The prefix byte 0xCB (30_encoding.md R138): the entry of the CB map a second byte selects, by fields (R140). First the shared shapes, then one definition per
row of spec/opcode_table.json. -/

namespace Sys2Proof.Machine

/-- The CB instruction a second byte selects, run by its fields x, y and z (30_encoding.md R140). -/
def runCb (op2 : Byte) (s : State) : Res Unit :=
  let o := operandOfField (fieldZ op2)
  let y := fieldY op2
  match fieldX op2 with
  | 0 => modifyWithFlags o (rot8 (rotOfField y)) s
  | 1 => (readR o s).andThen fun v t => done (t.setFlags (bit8 y v t.flags.c))
  | 2 => modifyPlain o (res8 y) s
  | 3 => modifyPlain o (set8 y) s

/-- The byte 0xCB: fetch one further byte and run the CB instruction it selects, PC being at that byte
(30_encoding.md R138, 40_engine.md R176). The decoder joins the two bytes, so a step runs the CB instruction's own
meaning; this is the row of the prefix byte alone (log entry 7). -/
def execPrefixCb (s : State) : Out := ((fetch8 s).andThen fun op2 t => runCb op2 t).out

end Sys2Proof.Machine
end

