-- ==== Sys2Proof/Machine/Rotate.lean ====
section
/-! DEFINITION. Rotates, shifts and SWAP (45_rotate_shift.md R320-R339). First the shared shapes, then one definition per
row of spec/opcode_table.json. -/

namespace Sys2Proof.Machine

/-- RLCA, RRCA, RLA, RRA (45_rotate_shift.md R320-R323). -/
def rotateA (k : RotOp) (s : State) : Out :=
  let r := rotA8 k s.a s.flags.c
  .next ((s.setFlags r.2).setReg .a r.1)

/-- The CB rotates, shifts and SWAP, on a register or on the byte at HL (45_rotate_shift.md R324-R339). -/
def rotate (k : RotOp) (o : Operand8) (s : State) : Out := (modifyWithFlags o (rot8 k) s).out

/-- RLCA (45_rotate_shift.md R320). -/
def execRlca (s : State) : Out := rotateA .rlc s

/-- RRCA (45_rotate_shift.md R321). -/
def execRrca (s : State) : Out := rotateA .rrc s

/-- RLA (45_rotate_shift.md R322). -/
def execRla (s : State) : Out := rotateA .rl s

/-- RRA (45_rotate_shift.md R323). -/
def execRra (s : State) : Out := rotateA .rr s

/-- RLC B (45_rotate_shift.md R324). -/
def execRlcB (s : State) : Out := rotate .rlc (.reg .b) s

/-- RLC C (45_rotate_shift.md R324). -/
def execRlcC (s : State) : Out := rotate .rlc (.reg .c) s

/-- RLC D (45_rotate_shift.md R324). -/
def execRlcD (s : State) : Out := rotate .rlc (.reg .d) s

/-- RLC E (45_rotate_shift.md R324). -/
def execRlcE (s : State) : Out := rotate .rlc (.reg .e) s

/-- RLC H (45_rotate_shift.md R324). -/
def execRlcH (s : State) : Out := rotate .rlc (.reg .h) s

/-- RLC L (45_rotate_shift.md R324). -/
def execRlcL (s : State) : Out := rotate .rlc (.reg .l) s

/-- RLC (HL) (45_rotate_shift.md R325). -/
def execRlcMemHL (s : State) : Out := rotate .rlc .memHL s

/-- RLC A (45_rotate_shift.md R324). -/
def execRlcA (s : State) : Out := rotate .rlc (.reg .a) s

/-- RRC B (45_rotate_shift.md R326). -/
def execRrcB (s : State) : Out := rotate .rrc (.reg .b) s

/-- RRC C (45_rotate_shift.md R326). -/
def execRrcC (s : State) : Out := rotate .rrc (.reg .c) s

/-- RRC D (45_rotate_shift.md R326). -/
def execRrcD (s : State) : Out := rotate .rrc (.reg .d) s

/-- RRC E (45_rotate_shift.md R326). -/
def execRrcE (s : State) : Out := rotate .rrc (.reg .e) s

/-- RRC H (45_rotate_shift.md R326). -/
def execRrcH (s : State) : Out := rotate .rrc (.reg .h) s

/-- RRC L (45_rotate_shift.md R326). -/
def execRrcL (s : State) : Out := rotate .rrc (.reg .l) s

/-- RRC (HL) (45_rotate_shift.md R327). -/
def execRrcMemHL (s : State) : Out := rotate .rrc .memHL s

/-- RRC A (45_rotate_shift.md R326). -/
def execRrcA (s : State) : Out := rotate .rrc (.reg .a) s

/-- RL B (45_rotate_shift.md R328). -/
def execRlB (s : State) : Out := rotate .rl (.reg .b) s

/-- RL C (45_rotate_shift.md R328). -/
def execRlC (s : State) : Out := rotate .rl (.reg .c) s

/-- RL D (45_rotate_shift.md R328). -/
def execRlD (s : State) : Out := rotate .rl (.reg .d) s

/-- RL E (45_rotate_shift.md R328). -/
def execRlE (s : State) : Out := rotate .rl (.reg .e) s

/-- RL H (45_rotate_shift.md R328). -/
def execRlH (s : State) : Out := rotate .rl (.reg .h) s

/-- RL L (45_rotate_shift.md R328). -/
def execRlL (s : State) : Out := rotate .rl (.reg .l) s

/-- RL (HL) (45_rotate_shift.md R329). -/
def execRlMemHL (s : State) : Out := rotate .rl .memHL s

/-- RL A (45_rotate_shift.md R328). -/
def execRlA (s : State) : Out := rotate .rl (.reg .a) s

/-- RR B (45_rotate_shift.md R330). -/
def execRrB (s : State) : Out := rotate .rr (.reg .b) s

/-- RR C (45_rotate_shift.md R330). -/
def execRrC (s : State) : Out := rotate .rr (.reg .c) s

/-- RR D (45_rotate_shift.md R330). -/
def execRrD (s : State) : Out := rotate .rr (.reg .d) s

/-- RR E (45_rotate_shift.md R330). -/
def execRrE (s : State) : Out := rotate .rr (.reg .e) s

/-- RR H (45_rotate_shift.md R330). -/
def execRrH (s : State) : Out := rotate .rr (.reg .h) s

/-- RR L (45_rotate_shift.md R330). -/
def execRrL (s : State) : Out := rotate .rr (.reg .l) s

/-- RR (HL) (45_rotate_shift.md R331). -/
def execRrMemHL (s : State) : Out := rotate .rr .memHL s

/-- RR A (45_rotate_shift.md R330). -/
def execRrA (s : State) : Out := rotate .rr (.reg .a) s

/-- SLA B (45_rotate_shift.md R332). -/
def execSlaB (s : State) : Out := rotate .sla (.reg .b) s

/-- SLA C (45_rotate_shift.md R332). -/
def execSlaC (s : State) : Out := rotate .sla (.reg .c) s

/-- SLA D (45_rotate_shift.md R332). -/
def execSlaD (s : State) : Out := rotate .sla (.reg .d) s

/-- SLA E (45_rotate_shift.md R332). -/
def execSlaE (s : State) : Out := rotate .sla (.reg .e) s

/-- SLA H (45_rotate_shift.md R332). -/
def execSlaH (s : State) : Out := rotate .sla (.reg .h) s

/-- SLA L (45_rotate_shift.md R332). -/
def execSlaL (s : State) : Out := rotate .sla (.reg .l) s

/-- SLA (HL) (45_rotate_shift.md R333). -/
def execSlaMemHL (s : State) : Out := rotate .sla .memHL s

/-- SLA A (45_rotate_shift.md R332). -/
def execSlaA (s : State) : Out := rotate .sla (.reg .a) s

/-- SRA B (45_rotate_shift.md R334). -/
def execSraB (s : State) : Out := rotate .sra (.reg .b) s

/-- SRA C (45_rotate_shift.md R334). -/
def execSraC (s : State) : Out := rotate .sra (.reg .c) s

/-- SRA D (45_rotate_shift.md R334). -/
def execSraD (s : State) : Out := rotate .sra (.reg .d) s

/-- SRA E (45_rotate_shift.md R334). -/
def execSraE (s : State) : Out := rotate .sra (.reg .e) s

/-- SRA H (45_rotate_shift.md R334). -/
def execSraH (s : State) : Out := rotate .sra (.reg .h) s

/-- SRA L (45_rotate_shift.md R334). -/
def execSraL (s : State) : Out := rotate .sra (.reg .l) s

/-- SRA (HL) (45_rotate_shift.md R335). -/
def execSraMemHL (s : State) : Out := rotate .sra .memHL s

/-- SRA A (45_rotate_shift.md R334). -/
def execSraA (s : State) : Out := rotate .sra (.reg .a) s

/-- SWAP B (45_rotate_shift.md R336). -/
def execSwapB (s : State) : Out := rotate .swap (.reg .b) s

/-- SWAP C (45_rotate_shift.md R336). -/
def execSwapC (s : State) : Out := rotate .swap (.reg .c) s

/-- SWAP D (45_rotate_shift.md R336). -/
def execSwapD (s : State) : Out := rotate .swap (.reg .d) s

/-- SWAP E (45_rotate_shift.md R336). -/
def execSwapE (s : State) : Out := rotate .swap (.reg .e) s

/-- SWAP H (45_rotate_shift.md R336). -/
def execSwapH (s : State) : Out := rotate .swap (.reg .h) s

/-- SWAP L (45_rotate_shift.md R336). -/
def execSwapL (s : State) : Out := rotate .swap (.reg .l) s

/-- SWAP (HL) (45_rotate_shift.md R337). -/
def execSwapMemHL (s : State) : Out := rotate .swap .memHL s

/-- SWAP A (45_rotate_shift.md R336). -/
def execSwapA (s : State) : Out := rotate .swap (.reg .a) s

/-- SRL B (45_rotate_shift.md R338). -/
def execSrlB (s : State) : Out := rotate .srl (.reg .b) s

/-- SRL C (45_rotate_shift.md R338). -/
def execSrlC (s : State) : Out := rotate .srl (.reg .c) s

/-- SRL D (45_rotate_shift.md R338). -/
def execSrlD (s : State) : Out := rotate .srl (.reg .d) s

/-- SRL E (45_rotate_shift.md R338). -/
def execSrlE (s : State) : Out := rotate .srl (.reg .e) s

/-- SRL H (45_rotate_shift.md R338). -/
def execSrlH (s : State) : Out := rotate .srl (.reg .h) s

/-- SRL L (45_rotate_shift.md R338). -/
def execSrlL (s : State) : Out := rotate .srl (.reg .l) s

/-- SRL (HL) (45_rotate_shift.md R339). -/
def execSrlMemHL (s : State) : Out := rotate .srl .memHL s

/-- SRL A (45_rotate_shift.md R338). -/
def execSrlA (s : State) : Out := rotate .srl (.reg .a) s

end Sys2Proof.Machine
end

