-- ==== Sys2Proof/Machine/Step.lean ====
section
/-! DEFINITION. One step (40_engine.md R171), and the placing of an instruction where a step fetches next. -/

namespace Sys2Proof.Machine

/-- `ExecuteInstruction()` and `EndOfInstruction()`: fetch, run the row's rule, then the end of the instruction, which a
fault does not reach (40_engine.md R171, R176). -/
def runInstruction (s : State) : Out :=
  match fetchInstr s with
  | .raised t => .next t
  | .ok i t =>
    match exec i t with
    | .next u => .next (endOfInstruction u)
    | .fault r => .fault r
    | .refused r => .refused r

/-- `cycle()`: no step of a faulted machine; else the wake-up, then a dispatch, a halted tick or one instruction
(40_engine.md R171, 60_exceptions.md R400, R415). What the call returns is `cycleReturn`. -/
def step (s : State) : Host.Outcome State Fault Refusal :=
  match s.fault with
  | some k => .fault (.faulted k)
  | none =>
    let s1 := wake s
    if dispatchDue s1 then (dispatch s1).out
    else if s1.halted then .next s1
    else runInstruction s1

/-- The state with the instruction of `w` placed where the next step fetches: its bytes (`tableBytes`) in the storage
behind PC, PC + 1 and PC + 2. What would keep that step from fetching is taken away: a fault, `halted`, and `ime` where
a dispatch would come first. From the power-on state only the bytes change (log entry 1). -/
def State.withFetchWord (s : State) (nbits w : Nat) : State :=
  let bytes := tableBytes nbits w
  let s1 := pokeByte (s.pc + 2) bytes.2.2 (pokeByte (s.pc + 1) bytes.2.1 (pokeByte s.pc bytes.1 s))
  { s1 with fault := none, halted := false, ime := s1.ime && !decide (dispatchDue s1) }

end Sys2Proof.Machine
end

