-- ==== Sys2Proof/Machine/HostActions.lean ====
section
/-! DEFINITION. What the host does between two steps (60_exceptions.md R430): the launch, `reset()` and the injections. -/

namespace Sys2Proof.Machine

/-- `start_emulation(img)`: the power-on state, or none where the launch is refused (70_reset_and_hazards.md R450, R451,
10_state.md R45, R46, R53). -/
def launch (cfg : Config) (img : List Byte) : Option State :=
  if img.length < 0x8000 then none
  else if cfg.initialRomBank * 0x4000 + 0x4000 > img.length then none
  else some { State.reset with
    cfg := cfg
    rom := Memory.ofBytes 0 img
    romLen := img.length
    kind := classify (img.getD 0x0147 0)
    romBankOffset := cfg.initialRomBank * 0x4000
    mbc5Lo := BitVec.ofNat 8 cfg.initialRomBank
    mbc5Hi := BitVec.ofNat 1 (cfg.initialRomBank / 0x100) }

/-- A write of the host, or a reset (60_exceptions.md R430). To inspect the state changes nothing and is no move. -/
inductive HostMove where
  /-- A raw byte into the io bank, by index: no controller write. -/
  | injectIo (i : Fin 0x80) (v : Byte)
  /-- A raw byte into IE. -/
  | injectIe (v : Byte)
  /-- `reset()`. -/
  | reset
deriving DecidableEq, Repr

/-- `reset()`: the register file and the engine flags; memory, IE, the io bank, external RAM and the bank state stay
(70_reset_and_hazards.md R452). -/
def resetCore (s : State) : State :=
  { s with a := 0, b := 0, c := 0, d := 0, e := 0, h := 0, l := 0, f := 0, pc := 0, sp := 0,
           halted := false, ime := false, imeDelay := 0 }

/-- The state after a host move: none where the move is not defined, a `reset()` of a faulted machine
(60_exceptions.md R400, R430; log entry 8). -/
def hostMove (m : HostMove) (s : State) : Option State :=
  match m with
  | .injectIo i v => some { s with mem := Memory.write s.mem (0xFF00 + i.val) v }
  | .injectIe v => some { s with ie := v }
  | .reset => if s.fault.isSome then none else some (resetCore s)

end Sys2Proof.Machine
end

