-- ==== Sys2Proof/Machine/Timing.lean ====
section
/-! DEFINITION. What a call of `cycle()` returns: the cost of the step, or the fault (70_reset_and_hazards.md R470-R474,
40_engine.md R171, 60_exceptions.md R400). The cost is output, not state, and nothing else depends on it
(10_state.md R52; log entry 9). -/

namespace Sys2Proof.Machine

/-- The cost of a row, in M-cycles (70_reset_and_hazards.md R470). -/
inductive Cost where
  | fixed (n : Nat)
  /-- Taken and not taken (R471). -/
  | branch (taken notTaken : Nat)
  /-- The cost stands in the CB table. -/
  | cb
  /-- The row always faults and returns no cost. -/
  | faults
deriving DecidableEq, Repr

/-- Row 0 of the cost table (70_reset_and_hazards.md R470). -/
def costRow0 : List Cost := [
  .fixed 1, .fixed 3, .fixed 2, .fixed 2, .fixed 1, .fixed 1, .fixed 2, .fixed 1,
  .fixed 5, .fixed 2, .fixed 2, .fixed 2, .fixed 1, .fixed 1, .fixed 2, .fixed 1]

/-- Row 1 of the cost table (70_reset_and_hazards.md R470). -/
def costRow1 : List Cost := [
  .faults, .fixed 3, .fixed 2, .fixed 2, .fixed 1, .fixed 1, .fixed 2, .fixed 1,
  .fixed 3, .fixed 2, .fixed 2, .fixed 2, .fixed 1, .fixed 1, .fixed 2, .fixed 1]

/-- Row 2 of the cost table (70_reset_and_hazards.md R470). -/
def costRow2 : List Cost := [
  .branch 3 2, .fixed 3, .fixed 2, .fixed 2, .fixed 1, .fixed 1, .fixed 2, .fixed 1,
  .branch 3 2, .fixed 2, .fixed 2, .fixed 2, .fixed 1, .fixed 1, .fixed 2, .fixed 1]

/-- Row 3 of the cost table (70_reset_and_hazards.md R470). -/
def costRow3 : List Cost := [
  .branch 3 2, .fixed 3, .fixed 2, .fixed 2, .fixed 3, .fixed 3, .fixed 3, .fixed 1,
  .branch 3 2, .fixed 2, .fixed 2, .fixed 2, .fixed 1, .fixed 1, .fixed 2, .fixed 1]

/-- Row 4 of the cost table (70_reset_and_hazards.md R470). -/
def costRow4 : List Cost := [
  .fixed 1, .fixed 1, .fixed 1, .fixed 1, .fixed 1, .fixed 1, .fixed 2, .fixed 1,
  .fixed 1, .fixed 1, .fixed 1, .fixed 1, .fixed 1, .fixed 1, .fixed 2, .fixed 1]

/-- Row 5 of the cost table (70_reset_and_hazards.md R470). -/
def costRow5 : List Cost := [
  .fixed 1, .fixed 1, .fixed 1, .fixed 1, .fixed 1, .fixed 1, .fixed 2, .fixed 1,
  .fixed 1, .fixed 1, .fixed 1, .fixed 1, .fixed 1, .fixed 1, .fixed 2, .fixed 1]

/-- Row 6 of the cost table (70_reset_and_hazards.md R470). -/
def costRow6 : List Cost := [
  .fixed 1, .fixed 1, .fixed 1, .fixed 1, .fixed 1, .fixed 1, .fixed 2, .fixed 1,
  .fixed 1, .fixed 1, .fixed 1, .fixed 1, .fixed 1, .fixed 1, .fixed 2, .fixed 1]

/-- Row 7 of the cost table (70_reset_and_hazards.md R470). -/
def costRow7 : List Cost := [
  .fixed 2, .fixed 2, .fixed 2, .fixed 2, .fixed 2, .fixed 2, .fixed 1, .fixed 2,
  .fixed 1, .fixed 1, .fixed 1, .fixed 1, .fixed 1, .fixed 1, .fixed 2, .fixed 1]

/-- Row 8 of the cost table (70_reset_and_hazards.md R470). -/
def costRow8 : List Cost := [
  .fixed 1, .fixed 1, .fixed 1, .fixed 1, .fixed 1, .fixed 1, .fixed 2, .fixed 1,
  .fixed 1, .fixed 1, .fixed 1, .fixed 1, .fixed 1, .fixed 1, .fixed 2, .fixed 1]

/-- Row 9 of the cost table (70_reset_and_hazards.md R470). -/
def costRow9 : List Cost := [
  .fixed 1, .fixed 1, .fixed 1, .fixed 1, .fixed 1, .fixed 1, .fixed 2, .fixed 1,
  .fixed 1, .fixed 1, .fixed 1, .fixed 1, .fixed 1, .fixed 1, .fixed 2, .fixed 1]

/-- Row A of the cost table (70_reset_and_hazards.md R470). -/
def costRowA : List Cost := [
  .fixed 1, .fixed 1, .fixed 1, .fixed 1, .fixed 1, .fixed 1, .fixed 2, .fixed 1,
  .fixed 1, .fixed 1, .fixed 1, .fixed 1, .fixed 1, .fixed 1, .fixed 2, .fixed 1]

/-- Row B of the cost table (70_reset_and_hazards.md R470). -/
def costRowB : List Cost := [
  .fixed 1, .fixed 1, .fixed 1, .fixed 1, .fixed 1, .fixed 1, .fixed 2, .fixed 1,
  .fixed 1, .fixed 1, .fixed 1, .fixed 1, .fixed 1, .fixed 1, .fixed 2, .fixed 1]

/-- Row C of the cost table (70_reset_and_hazards.md R470). -/
def costRowC : List Cost := [
  .branch 5 2, .fixed 3, .branch 4 3, .fixed 4, .branch 6 3, .fixed 4, .fixed 2, .fixed 4,
  .branch 5 2, .fixed 4, .branch 4 3, .cb, .branch 6 3, .fixed 6, .fixed 2, .fixed 4]

/-- Row D of the cost table (70_reset_and_hazards.md R470). -/
def costRowD : List Cost := [
  .branch 5 2, .fixed 3, .branch 4 3, .faults, .branch 6 3, .fixed 4, .fixed 2, .fixed 4,
  .branch 5 2, .fixed 4, .branch 4 3, .faults, .branch 6 3, .faults, .fixed 2, .fixed 4]

/-- Row E of the cost table (70_reset_and_hazards.md R470). -/
def costRowE : List Cost := [
  .fixed 3, .fixed 3, .fixed 2, .faults, .faults, .fixed 4, .fixed 2, .fixed 4,
  .fixed 4, .fixed 1, .fixed 4, .faults, .faults, .faults, .fixed 2, .fixed 4]

/-- Row F of the cost table (70_reset_and_hazards.md R470). -/
def costRowF : List Cost := [
  .fixed 3, .fixed 3, .fixed 2, .fixed 1, .faults, .fixed 4, .fixed 2, .fixed 4,
  .fixed 3, .fixed 2, .fixed 4, .fixed 1, .faults, .faults, .fixed 2, .fixed 4]

/-- The cost table, one entry per opcode byte in order (70_reset_and_hazards.md R470). -/
def costMap : List Cost :=
  costRow0 ++ costRow1 ++ costRow2 ++ costRow3 ++ costRow4 ++ costRow5 ++ costRow6 ++ costRow7 ++
  costRow8 ++ costRow9 ++ costRowA ++ costRowB ++ costRowC ++ costRowD ++ costRowE ++ costRowF

/-- The cost of a CB instruction by its second byte: a register operand 2, BIT b,(HL) 3, any other (HL) operand 4
(70_reset_and_hazards.md R470). -/
def cbCost (op2 : Byte) : Nat :=
  match operandOfField (fieldZ op2) with
  | .reg _ => 2
  | .memHL => if fieldX op2 = 1 then 3 else 4

/-- The condition of a conditional opcode: the field `cc` in bits 4..3, for JP, CALL and RET (`y`) and for JR
(`y - 4`) alike (30_encoding.md R135). -/
def condOfOpcode (op : Byte) : Cond := condOfField (op.extractLsb' 3 2).toFin

/-- The cost of an opcode byte, and its second byte for the CB table, in the state before the instruction: none for a
row that always faults (70_reset_and_hazards.md R470, R471). -/
def opcodeCost (op op2 : Byte) (s : State) : Option Nat :=
  match costMap.getD op.toNat .faults with
  | .fixed n => some n
  | .branch taken notTaken => some (if cond (condOfOpcode op) s then taken else notTaken)
  | .cb => some (cbCost op2)
  | .faults => none

/-- The cost of a halted tick (70_reset_and_hazards.md R472). -/
def haltedTickCost : Nat := 1

/-- The cost of an interrupt dispatch (70_reset_and_hazards.md R473). -/
def dispatchCost : Nat := 5

/-- The byte a fetch at an address reads, 0x00 where the fetch faults (the step then returns no cost). -/
def peek (s : State) (a : Word) : Byte :=
  match busRead s a with
  | .ok v => v
  | .error _ => 0

/-- The M-cycles of a step that raises no fault (40_engine.md R171). -/
def mCycles (s : State) : Option Nat :=
  let s1 := wake s
  if dispatchDue s1 then some dispatchCost
  else if s1.halted then some haltedTickCost
  else opcodeCost (peek s1 s1.pc) (peek s1 (s1.pc + 1)) s1

/-- What `cycle()` returns. -/
inductive CycleReturn where
  /-- The cost, scaled by `CYCLE_SCALE` (70_reset_and_hazards.md R474). -/
  | cost (n : Nat)
  /-- The fault the step raised, and no cost (60_exceptions.md R400). -/
  | fault (k : FaultRecord)
  /-- There is no step: the machine is faulted (60_exceptions.md R400). -/
  | noStep
deriving DecidableEq, Repr

/-- What the call `cycle()` that makes this step returns (40_engine.md R171, 60_exceptions.md R400). -/
def cycleReturn (s : State) : CycleReturn :=
  match step s with
  | .next t =>
    match t.fault, mCycles s with
    | some k, _ => .fault k
    | none, some n => .cost (n * s.cfg.cycleScale.factor)
    | none, none => .noStep
  | .fault _ => .noStep
  | .refused _ => .noStep

end Sys2Proof.Machine
end

