-- ==== Sys2Proof/Safety.lean ====
section
/-! DEFINITION. What claims are stated in: the invariant of a machine that was launched, and what counts as a safe run. -/

namespace Sys2Proof.Machine

/-- The keys of the on-board arrays: `vram`, `wram`, `oam`, `io` and `hram` (10_state.md R47). -/
abbrev backed (key : Nat) : Prop :=
  (0x8000 ≤ key ∧ key ≤ 0x9FFF) ∨ (0xC000 ≤ key ∧ key ≤ 0xDFFF) ∨ (0xFE00 ≤ key ∧ key ≤ 0xFE9F) ∨
    (0xFF00 ≤ key ∧ key ≤ 0xFFFE)

/-- The controller has no write handler: kind None, or MBC1 with `MBC1_MODE = Fatal` (20_memory.md R97, R98). -/
abbrev noHandler (s : State) : Prop := s.kind = .noMbc ∨ (s.kind = .mbc1 ∧ s.cfg.mbc1Mode = .fatal)

/-- What holds of every state a launched machine reaches. -/
structure State.Inv (s : State) : Prop where
  /-- The low nibble of F is 0 (10_state.md R32). -/
  fLow : s.f &&& 0x0F = 0
  /-- The on-board storage is canonical. -/
  memWf : Memory.wf s.mem
  /-- The on-board storage lists bytes of the five arrays only (10_state.md R47). -/
  memKeys : ∀ cell ∈ s.mem, backed cell.1
  /-- The image is canonical. -/
  romWf : Memory.wf s.rom
  /-- The image lists bytes inside its length only. -/
  romKeys : ∀ cell ∈ s.rom, cell.1 < s.romLen
  /-- The image holds both windows (10_state.md R44). -/
  romMin : 0x8000 ≤ s.romLen
  /-- The kind is the one of the header byte (10_state.md R46). -/
  kindOfHeader : s.kind = classify (Memory.read s.rom 0x0147)
  /-- External RAM is canonical. -/
  extWf : Memory.wf s.extRam
  /-- External RAM lists bytes inside its size only (20_memory.md R94). -/
  extKeys : ∀ cell ∈ s.extRam, cell.1 < s.cfg.extRamSize
  /-- The bank offset is that of a bank (10_state.md R45). -/
  bankAligned : s.romBankOffset % 0x4000 = 0
  /-- The mapped bank lies inside the image (10_state.md R45). -/
  bankFits : s.romBankOffset + 0x4000 ≤ s.romLen
  /-- The delay of EI is 0 or 1 between two steps (60_exceptions.md R419). -/
  delay : s.imeDelay ≠ 2
  /-- Without a write handler external RAM is never enabled (20_memory.md R92, R98). -/
  ramOff : noHandler s → s.ramEnabled = false
  /-- The MBC1 low bank bits are never 0 (20_memory.md R99). -/
  mbc1Lo : s.mbc1BankLo ≠ 0

/-- A run is safe as long as no step raises a fault (60_exceptions.md R400): the states a program may pass through. -/
abbrev State.Safe (s : State) : Prop := s.fault = none

/-- Quiescence, the end of the spec's example programs: Halted, and no step changes it (70_reset_and_hazards.md R455).
It does not say that the machine stops. -/
abbrev State.Quiescent (s : State) : Prop :=
  s.Safe ∧ s.halted = true ∧ (pending s = 0 ∨ s.cfg.interruptDispatch = false)

/-! ## The vocabulary of the statements -/

/-- The addresses whose writes store the byte: the five on-board arrays, the echo and IE (20_memory.md R76). -/
abbrev stored (a : Word) : Prop :=
  (0x8000 ≤ a.toNat ∧ a.toNat ≤ 0x9FFF) ∨ (0xC000 ≤ a.toNat ∧ a.toNat ≤ 0xFE9F) ∨ 0xFF00 ≤ a.toNat

/-- The address a stored byte is named by: an echo address names the byte 0x2000 below it (20_memory.md R78). -/
def home (a : Word) : Nat := if 0xE000 ≤ a.toNat ∧ a.toNat ≤ 0xFDFF then a.toNat - 0x2000 else a.toNat

/-- The condition of a field `cc` in terms of F (30_encoding.md R135). -/
def condHolds (s : State) : Cond → Prop
  | .nz => s.f.getLsbD 7 = false
  | .z => s.f.getLsbD 7 = true
  | .nc => s.f.getLsbD 4 = false
  | .c => s.f.getLsbD 4 = true

/-- `Loads8 s i d a`: instruction `i` loads register `d` from the byte at `a` (41_load8.md R222, R225, R226, R229, R231,
R233). -/
inductive Loads8 (s : State) : Instr → Reg8 → Word → Prop
  | memHL (dst : Reg8) : Loads8 s (.ldRegMemHL dst) dst s.hl
  | memBC : Loads8 s .ldAMemBC .a s.bc
  | memDE : Loads8 s .ldAMemDE .a s.de
  | memNn (nn : Word) : Loads8 s (.ldAMemNn nn) .a nn
  | high (n : Byte) : Loads8 s (.ldhAMemN n) .a (0xFF00 + n.setWidth 16)
  | highC : Loads8 s .ldAMemC .a (0xFF00 + s.c.setWidth 16)

/-- `Stores8 s i a v`: instruction `i` stores `v` at `a` (41_load8.md R223, R224, R227, R228, R230, R232, R234). -/
inductive Stores8 (s : State) : Instr → Word → Byte → Prop
  | memHL (r : Reg8) : Stores8 s (.ldMemHLReg r) s.hl (s.reg r)
  | memHLImm (n : Byte) : Stores8 s (.ldMemHLN n) s.hl n
  | memBC : Stores8 s .ldMemBCA s.bc s.a
  | memDE : Stores8 s .ldMemDEA s.de s.a
  | memNn (nn : Word) : Stores8 s (.ldMemNnA nn) nn s.a
  | high (n : Byte) : Stores8 s (.ldhMemNA n) (0xFF00 + n.setWidth 16) s.a
  | highC : Stores8 s .ldMemCA (0xFF00 + s.c.setWidth 16) s.a

/-- `AluOperand s op i v`: instruction `i` is the ALU operation `op` with the operand `v` (43_alu8.md section 1). -/
inductive AluOperand (s : State) (op : AluOp) : Instr → Byte → Prop
  | reg (r : Reg8) : AluOperand s op (.aluReg op r) (s.reg r)
  | memHL (v : Byte) (h : busRead s s.hl = .ok v) : AluOperand s op (.aluMemHL op) v
  | imm (n : Byte) : AluOperand s op (.aluN op n) n

/-- `Jumps s i target`: instruction `i` is a jump to `target` that is taken (47_control.md R360-R364). -/
inductive Jumps (s : State) : Instr → Word → Prop
  | jp (nn : Word) : Jumps s (.jpNn nn) nn
  | jpHL : Jumps s .jpHL s.hl
  | jpCond (cc : Cond) (nn : Word) (h : condHolds s cc) : Jumps s (.jpCond cc nn) nn
  | jr (e : Byte) : Jumps s (.jrE8 e) (BitVec.ofInt 16 (s.pc.toNat + e.toInt))
  | jrCond (cc : Cond) (e : Byte) (h : condHolds s cc) :
      Jumps s (.jrCond cc e) (BitVec.ofInt 16 (s.pc.toNat + e.toInt))

/-- `Calls s i target`: instruction `i` is a call of `target` that is made (47_control.md R365, R366, R370). -/
inductive Calls (s : State) : Instr → Word → Prop
  | call (nn : Word) : Calls s (.callNn nn) nn
  | callCond (cc : Cond) (nn : Word) (h : condHolds s cc) : Calls s (.callCond cc nn) nn
  | rst (t : Fin 8) : Calls s (.rst t) (BitVec.ofNat 16 (8 * t.val))

/-- `Returns s i`: instruction `i` is a RET or a RET cc that is made (47_control.md R367, R368). -/
inductive Returns (s : State) : Instr → Prop
  | ret : Returns s .ret
  | retCond (cc : Cond) (h : condHolds s cc) : Returns s (.retCond cc)

/-- `Untaken s i`: instruction `i` is conditional and its condition does not hold (47_control.md R361, R364, R366,
R368). -/
inductive Untaken (s : State) : Instr → Prop
  | jp (cc : Cond) (nn : Word) (h : ¬ condHolds s cc) : Untaken s (.jpCond cc nn)
  | jr (cc : Cond) (e : Byte) (h : ¬ condHolds s cc) : Untaken s (.jrCond cc e)
  | call (cc : Cond) (nn : Word) (h : ¬ condHolds s cc) : Untaken s (.callCond cc nn)
  | ret (cc : Cond) (h : ¬ condHolds s cc) : Untaken s (.retCond cc)

/-- Bit `i` of the result of a rotate or shift, from the bits of its operand and the old carry (40_engine.md
R191-R198). -/
def rotatedBit (k : RotOp) (v : Byte) (cy : Bool) (i : Nat) : Bool :=
  match k with
  | .rlc => v.getLsbD ((i + 7) % 8)
  | .rrc => v.getLsbD ((i + 1) % 8)
  | .rl => if i = 0 then cy else v.getLsbD (i - 1)
  | .rr => if i = 7 then cy else v.getLsbD (i + 1)
  | .sla => if i = 0 then false else v.getLsbD (i - 1)
  | .sra => if i = 7 then v.getLsbD 7 else v.getLsbD (i + 1)
  | .swap => v.getLsbD ((i + 4) % 8)
  | .srl => if i = 7 then false else v.getLsbD (i + 1)

/-- The bit a rotate or shift puts into the carry: bit 7 to the left, bit 0 to the right, none for SWAP (40_engine.md
R191-R198). -/
def rotatedOut (k : RotOp) (v : Byte) : Bool :=
  match k with
  | .rlc | .rl | .sla => v.getLsbD 7
  | .rrc | .rr | .sra | .srl => v.getLsbD 0
  | .swap => false

/-- `Replaces s v i w fl`: instruction `i` replaces the byte `v` at HL by `w`; `fl` are the flags it sets, none where it
sets no flag (43_alu8.md R295, R297, 45_rotate_shift.md section 2, 46_bit.md R353, R355). -/
inductive Replaces (s : State) (v w : Byte) : Instr → Option Flags → Prop
  | inc (hw : w.toNat = (v.toNat + 1) % 256) :
      Replaces s v w .incMemHL (some { z := decide (w = 0), n := false, h := decide (v.toNat % 16 = 15), c := s.flags.c })
  | dec (hw : w.toNat = (v.toNat + 255) % 256) :
      Replaces s v w .decMemHL (some { z := decide (w = 0), n := true, h := decide (v.toNat % 16 = 0), c := s.flags.c })
  | rot (k : RotOp) (hw : ∀ j : Nat, j < 8 → w.getLsbD j = rotatedBit k v s.flags.c j) :
      Replaces s v w (.rotMemHL k) (some { z := decide (w = 0), n := false, h := false, c := rotatedOut k v })
  | res (b : Fin 8) (hw : ∀ j : Nat, w.getLsbD j = (decide (j ≠ b.val) && v.getLsbD j)) : Replaces s v w (.resMemHL b) none
  | set (b : Fin 8) (hw : ∀ j : Nat, w.getLsbD j = (decide (j = b.val) || v.getLsbD j)) : Replaces s v w (.setMemHL b) none

/-- The state with the flags set, where there are any to set. -/
def State.withFlags (s : State) : Option Flags → State
  | some fl => s.setFlags fl
  | none => s

/-- `Stored a v s t`: from `s` to `t` the byte at `a` became `v`, and every byte that does not share its storage reads as
before. -/
structure Stored (a : Word) (v : Byte) (s t : State) : Prop where
  here : busRead t a = .ok v
  others : ∀ b, home b ≠ home a → busRead t b = busRead s b

/-- `Pushed v s t`: from `s` to `t` the word `v` was pushed, its low byte at the new SP and its high byte above it
(40_engine.md R174), and every other byte reads as before. -/
structure Pushed (v : Word) (s t : State) : Prop where
  sp : t.sp = s.sp - 2
  low : busRead t (s.sp - 2) = .ok (loByte v)
  high : busRead t (s.sp - 1) = .ok (hiByte v)
  others : ∀ b, home b ≠ home (s.sp - 2) → home b ≠ home (s.sp - 1) → busRead t b = busRead s b

/-- The push of a word, where its writes may do anything a bus write does: SP moves first, then the low byte is written,
and the high byte only if that write raised nothing (40_engine.md R174, 60_exceptions.md R406). -/
def pushWrites (v : Word) (s : State) : Res Unit :=
  match memWrite (s.sp - 2) (loByte v) { s with sp := s.sp - 2 } with
  | .ok _ t => memWrite (s.sp - 1) (hiByte v) t
  | .raised t => .raised t

end Sys2Proof.Machine
end

