-- ==== Sys2Proof/Certificates/Slice0/Obligations.lean ====
section
/-! DEFINITION. The statements for the provers. Each docstring names the rule of spec/ it states, or the sections it rests
on and the spec's decision where it rests on one. -/

open Sys2Proof Sys2Proof.Machine

/-! ## Encoding -/

/-- Every instruction survives encoding and decoding, whatever bytes follow it (30_encoding.md section 1 and section 4).
The one term left out, the prefix byte alone, is no instruction (R138 there, log entry 7). -/
def Obligations.DecodeOfEncode : Prop :=
  ∀ (i : Instr) (rest : List Byte), i.WellFormed → decode (encode i ++ rest) = .ok (i, rest)

/-- What the decoder reads from bytes is a well-formed instruction whose encoding is exactly the bytes consumed
(30_encoding.md section 1 and section 4). -/
def Obligations.EncodeOfDecode : Prop :=
  ∀ (bytes rest : List Byte) (i : Instr), decode bytes = .ok (i, rest) → i.WellFormed ∧ encode i ++ rest = bytes

/-- The primary map laid out byte by byte and the same map by the fields x, y, z, p and q agree, for every opcode byte and
every immediate; after the prefix byte every second byte selects the entry of its fields, as one instruction of two bytes
(30_encoding.md section 2, section 3 and section 4). -/
def Obligations.OpcodeMapsByFields : Prop :=
  (∀ op b1 b2 : Byte, decodeBytes op b1 b2 = primaryByFields op b1 b2) ∧
    ∀ (op2 : Byte) (rest : List Byte), decode (0xCB :: op2 :: rest) = .ok (cbByFields op2, rest)

/-- Decoding rejects a list of bytes only where the list ends before its first instruction does (30_encoding.md
section 5; the spec's own derivation that decoding is total). -/
def Obligations.DecodeRejectsOnlyShortInput : Prop :=
  ∀ bytes : List Byte, (∃ e, decode bytes = .error e) ↔
    bytes = [] ∨ ∃ op rest, bytes = op :: rest ∧ rest.length < operandBytes op

/-- Words written out from the encodings of the instruction rules decode to the instruction each stands for: LD B,C;
LD D,n; LD BC,nn; ADD A,E; JP nn; RST 0x38; BIT 7,H; SET 1,E (41_load8.md, 42_load16_stack.md, 43_alu8.md, 46_bit.md,
47_control.md). -/
def Obligations.WrittenWordsDecode : Prop :=
  decode [0b01000001] = .ok (.ldBC, []) ∧ decode [0b00010110, 0x5A] = .ok (.ldDN 0x5A, []) ∧
    decode [0b00000001, 0x34, 0x12] = .ok (.ldBCNn 0x1234, []) ∧ decode [0b10000011] = .ok (.addAE, []) ∧
    decode [0b11000011, 0x50, 0x01] = .ok (.jpNn 0x0150, []) ∧ decode [0b11111111] = .ok (.rst38, []) ∧
    decode [0b11001011, 0b01111100] = .ok (.bit7H, []) ∧ decode [0xCB, 0xCB] = .ok (.set1E, [])

/-! ## The step -/

/-- A step runs the decoded instruction: no fault, no dispatch, not halted after the wake-up, the bytes at PC decode to
`i`; then the step is `exec i` with PC past those bytes, and the end of the instruction after it (40_engine.md section 1;
decisions D3, D18 of the spec). -/
def Obligations.StepRunsDecodedInstruction : Prop :=
  ∀ (s : State) (bytes : List Byte) (i : Instr),
    s.fault = none → ¬ dispatchDue (wake s) → (wake s).halted = false → decode bytes = .ok (i, []) →
    (∀ (k : Nat) (v : Byte), bytes[k]? = some v → busRead s (s.pc + BitVec.ofNat 16 k) = .ok v) →
    step s = match exec i { wake s with pc := s.pc + BitVec.ofNat 16 bytes.length } with
      | .next t => .next (endOfInstruction t)
      | .fault r => .fault r
      | .refused r => .refused r

/-- A faulted machine has no step, and a fetch that faults ends the step with the fault recorded and nothing else changed
but the wake-up (60_exceptions.md section 1, decision D28 of the spec and derivations from it). -/
def Obligations.FaultsEndSteps : Prop :=
  ∀ (s : State) (k : FaultRecord),
    (s.fault = some k → step s = .fault (.faulted k)) ∧
    (s.fault = none → ¬ dispatchDue (wake s) → (wake s).halted = false → busRead s s.pc = .error k →
      step s = .next { wake s with fault := some k })

/-- The halted machine: with nothing pending, or with dispatch off, a step changes nothing; with a source pending and `ime`
clear the step is the one of the same machine running. With dispatch off a running machine executes its instruction
whatever is pending (10_state.md section 3; 40_engine.md section 1; 60_exceptions.md section 2; decisions D3, D18, D19 and
D33 of the spec). -/
def Obligations.HaltedMachine : Prop :=
  ∀ s : State, s.fault = none →
    (s.halted = true → pending s = 0 ∨ s.cfg.interruptDispatch = false → step s = .next s) ∧
    (s.halted = true → s.cfg.interruptDispatch = true → s.ime = false → pending s ≠ 0 →
      step s = runInstruction { s with halted := false }) ∧
    (s.halted = false → s.cfg.interruptDispatch = false → step s = runInstruction s)

/-- A source is pending when it is requested and enabled, and only the five sources are; the source served is the pending
one of the lowest number, and its vector is 0x40 + 8 i (60_exceptions.md section 2, decision D18 of the spec). -/
def Obligations.PendingAndPriority : Prop :=
  ∀ s : State,
    (∀ (i : Nat) (f : Byte), busRead s 0xFF0F = .ok f →
      (pending s).getLsbD i = (decide (i < 5) && s.ie.getLsbD i && f.getLsbD i)) ∧
    (pending s ≠ 0 → (pending s).getLsbD (lowestSource (pending s)).val = true ∧
      (∀ j : Nat, j < (lowestSource (pending s)).val → (pending s).getLsbD j = false) ∧
      (vector (lowestSource (pending s))).toNat = 0x40 + 8 * (lowestSource (pending s)).val)

/-- The dispatch, wherever the stack lies but at SP 0x0000 and 0x0001: the machine runs, `ime` and its delay are cleared
and the request is cleared by the write of IF that gives `u`; then PC is pushed with the two bus writes of any push, and
becomes the vector unless the push faults. In memory the pushed word stands at the new SP and nothing else changes; where
the stack lies on IF the pushed byte stands there. That the push may fault is the model's choice between two rules of the
spec (log entry 13) (60_exceptions.md section 2, decisions D18, D37 and D39 of the spec). -/
def Obligations.DispatchEntersHandler : Prop :=
  ∀ s : State, s.fault = none → s.cfg.interruptDispatch = true → s.ime = true → pending s ≠ 0 →
    s.sp ≠ 0x0000 → s.sp ≠ 0x0001 →
    ∃ u : State,
      memWrite 0xFF0F (s.ifReg &&& ~~~((1 : Byte) <<< (lowestSource (pending s)).val))
        { s with halted := false, ime := false, imeDelay := 0 } = .ok () u ∧
      Stored 0xFF0F (s.ifReg &&& ~~~((1 : Byte) <<< (lowestSource (pending s)).val)) s u ∧
      { u with mem := s.mem, halted := s.halted, ime := s.ime, imeDelay := s.imeDelay } = s ∧
      step s = .next (match pushWrites s.pc u with
        | .ok _ t => { t with pc := vector (lowestSource (pending s)) }
        | .raised t => t) ∧
      (stored (s.sp - 2) → stored (s.sp - 1) → ∃ t : State, step s = .next t ∧ Pushed s.pc u t ∧
        t.pc = vector (lowestSource (pending s)) ∧ t.ime = false ∧ t.imeDelay = 0 ∧ t.halted = false ∧
        { t with pc := s.pc, sp := s.sp, mem := s.mem, ie := s.ie, halted := s.halted, ime := s.ime,
                 imeDelay := s.imeDelay } = s)

/-- Where the dispatch faults: with SP 0x0000 or 0x0001 it raises Unmodelled(IePushDispatch) before any write; without a
controller and with the stack in ROM its push faults and what it wrote stays, the request and `ime` cleared, SP moved, PC
not. That the push may fault is the model's choice between two rules of the spec (log entry 13) (60_exceptions.md section 1
and section 2, decisions D28 and D39 of the spec). -/
def Obligations.DispatchFaults : Prop :=
  ∀ s : State, s.fault = none → s.cfg.interruptDispatch = true → s.ime = true → pending s ≠ 0 →
    (s.sp = 0x0000 ∨ s.sp = 0x0001 →
      step s = .next { s with halted := false, fault := some (.unmodelled .iePushDispatch) }) ∧
    (s.kind = .noMbc → 2 ≤ s.sp.toNat → s.sp.toNat ≤ 0x8001 →
      ∃ t : State, step s = .next t ∧ t.fault = some (.malformedCartridgeAddr (s.sp - 2)) ∧
        Stored 0xFF0F (s.ifReg &&& ~~~((1 : Byte) <<< (lowestSource (pending s)).val)) s t ∧
        { t with mem := s.mem, sp := s.sp, halted := s.halted, ime := s.ime, imeDelay := s.imeDelay,
                 fault := s.fault } = s ∧
        t.sp = s.sp - 2 ∧ t.ime = false ∧ t.imeDelay = 0 ∧ t.halted = false)

/-! ## What a step may do, over all instructions -/

/-- No step changes the image, its length, the controller kind or the parameters (10_state.md section 4 and section 7;
20_memory.md section 4). -/
def Obligations.ImageKindAndParametersNeverChange : Prop :=
  ∀ s t : State, step s = .next t → t.rom = s.rom ∧ t.romLen = s.romLen ∧ t.kind = s.kind ∧ t.cfg = s.cfg

/-- The bank state belongs to its controller: only MBC5 moves the MBC5 fields, only MBC1 the MBC1 fields, and without a
controller no cartridge field moves at all (10_state.md section 4; 20_memory.md section 4). -/
def Obligations.BankStateMovesOnlyByItsController : Prop :=
  ∀ s t : State, step s = .next t →
    (s.kind ≠ .mbc5 → t.mbc5Lo = s.mbc5Lo ∧ t.mbc5Hi = s.mbc5Hi) ∧
      (s.kind ≠ .mbc1 → t.mbc1BankLo = s.mbc1BankLo ∧ t.mbc1BankHi = s.mbc1BankHi ∧ t.mbc1Mode = s.mbc1Mode) ∧
      (s.kind = .noMbc → t.romBankOffset = s.romBankOffset ∧ t.ramBank = s.ramBank ∧ t.ramEnabled = s.ramEnabled ∧
        t.extRam = s.extRam)

/-- `ime` becomes set only at the end of the instruction after EI, or by RETI, and clear only by a dispatch or by DI. The
delay starts only with EI, and stands at 1 after it: so a delay of 1 before a step says that EI came before
(10_state.md section 3; 60_exceptions.md section 2, decisions D18, D20, D21 and D22 of the spec). -/
def Obligations.ImeChangesOnlyByRule : Prop :=
  ∀ s t : State, step s = .next t →
    (s.ime = false → t.ime = true → s.imeDelay = 1 ∨ busRead s s.pc = .ok 0xD9) ∧
    (s.ime = true → t.ime = false → dispatchDue s ∨ busRead s s.pc = .ok 0xF3) ∧
    (s.imeDelay = 0 → t.imeDelay ≠ 0 → busRead s s.pc = .ok 0xFB ∧ t.imeDelay = 1)

/-- Only HALT makes a running machine halt, and within a step only a wake-up ends a halt (10_state.md section 3;
40_engine.md section 1; 60_exceptions.md section 2, decisions D19 and D33 of the spec). -/
def Obligations.HaltEntryAndExit : Prop :=
  ∀ s t : State, step s = .next t →
    (s.halted = false → t.halted = true → busRead s s.pc = .ok 0x76) ∧
    (s.halted = true → t.halted = false → s.cfg.interruptDispatch = true ∧ pending s ≠ 0)

/-- The end of the instruction after EI enables: an instruction other than EI and DI that raises no fault, run with
the delay at 1, leaves `ime` set and the delay 0 (60_exceptions.md section 2, decision D20 of the spec). -/
def Obligations.DelayEndsWithTheNextInstruction : Prop :=
  ∀ s t : State, step s = .next t → t.fault = none → ¬ dispatchDue (wake s) → (wake s).halted = false →
    s.imeDelay = 1 → busRead s s.pc ≠ .ok 0xFB → busRead s s.pc ≠ .ok 0xF3 → t.ime = true ∧ t.imeDelay = 0

/-- The invariant of a launched machine holds at power-on (10_state.md section 8; the image is the model's choice, log
entry 1). -/
def Obligations.InvariantAtReset : Prop := State.reset.Inv

/-- Every step keeps the invariant: the low nibble of F stays 0, the storage stays canonical and inside its arrays, the
mapped bank stays inside the image, and the rest of `State.Inv` (10_state.md R32, section 4 and section 5; 20_memory.md
section 4). -/
def Obligations.StepKeepsInvariant : Prop :=
  ∀ s t : State, s.Inv → step s = .next t → t.Inv

/-- A launch that is not refused gives a state with the invariant and no fault, and what the host may do between two steps
keeps the invariant. An injection stores its byte in the I/O bank or in IE and does nothing else, no controller write among
it; that it may act on a faulted machine is the model's reading (log entry 8) (70_reset_and_hazards.md section 1,
60_exceptions.md section 3, decisions D6, D7 and D29 of the spec). -/
def Obligations.HostKeepsInvariant : Prop :=
  (∀ (cfg : Config) (img : List Byte) (s : State), launch cfg img = some s → s.Inv ∧ s.Safe) ∧
    (∀ (m : HostMove) (s t : State), s.Inv → hostMove m s = some t → t.Inv) ∧
    ∀ (s : State) (v : Byte),
      (∀ i : Fin 0x80, ∃ t, hostMove (.injectIo i v) s = some t ∧ Stored (BitVec.ofNat 16 (0xFF00 + i.val)) v s t ∧
        { t with mem := s.mem } = s) ∧
      ∃ t, hostMove (.injectIe v) s = some t ∧ Stored 0xFFFF v s t ∧ { t with ie := s.ie } = s

/-- A step that raises no fault returns a cost of 1 to 6 M-cycles, scaled (70_reset_and_hazards.md section 3). -/
def Obligations.StepWithoutFaultReturnsCost : Prop :=
  ∀ s t : State, step s = .next t → t.fault = none →
    ∃ n : Nat, 1 ≤ n ∧ n ≤ 6 ∧ cycleReturn s = .cost (n * s.cfg.cycleScale.factor)

/-- A conditional instruction costs more when its condition holds: JR cc 3 or 2, JP cc 4 or 3, CALL cc 6 or 3, RET cc 5
or 2 M-cycles (70_reset_and_hazards.md section 3). -/
def Obligations.ConditionDecidesCost : Prop :=
  ∀ (s : State) (cc : Cond) (op b1 b2 : Byte), s.fault = none → ¬ dispatchDue s → s.halted = false →
    busRead s s.pc = .ok op →
    (decodeBytes op b1 b2 = .jrCond cc b1 →
      (condHolds s cc → mCycles s = some 3) ∧ (¬ condHolds s cc → mCycles s = some 2)) ∧
    (decodeBytes op b1 b2 = .jpCond cc (wordOf b2 b1) →
      (condHolds s cc → mCycles s = some 4) ∧ (¬ condHolds s cc → mCycles s = some 3)) ∧
    (decodeBytes op b1 b2 = .callCond cc (wordOf b2 b1) →
      (condHolds s cc → mCycles s = some 6) ∧ (¬ condHolds s cc → mCycles s = some 3)) ∧
    (decodeBytes op b1 b2 = .retCond cc →
      (condHolds s cc → mCycles s = some 5) ∧ (¬ condHolds s cc → mCycles s = some 2))

/-! ## Power-on, launch and reset -/

/-- The power-on values, and `reset()`, which zeroes the registers and the engine flags, changes nothing else and does not
exist for a faulted machine (10_state.md section 8, 70_reset_and_hazards.md section 1, 60_exceptions.md section 1;
decisions D6, D8, D20, D27 and D34 of the spec; the image of 0x8000 bytes 0x00 is the model's choice, log entry 1). -/
def Obligations.PowerOnAndReset : Prop :=
  ((∀ r, State.reset.reg r = 0) ∧ State.reset.f = 0 ∧ State.reset.pc = 0 ∧ State.reset.sp = 0 ∧
    State.reset.halted = false ∧ State.reset.ime = false ∧ State.reset.imeDelay = 0 ∧ State.reset.fault = none ∧
    State.reset.romBankOffset = 0x4000 ∧ State.reset.ramBank = 0 ∧ State.reset.ramEnabled = false ∧
    (∀ a, stored a → busRead State.reset a = .ok 0) ∧
    launch {} (List.replicate 0x8000 0) = some State.reset) ∧
  ∀ s : State, (s.fault = none → ∃ t, hostMove .reset s = some t ∧ (∀ r, t.reg r = 0) ∧ t.f = 0 ∧ t.pc = 0 ∧
      t.sp = 0 ∧ t.halted = false ∧ t.ime = false ∧ t.imeDelay = 0 ∧ (∀ a, busRead t a = busRead s a) ∧
      { t with a := s.a, b := s.b, c := s.c, d := s.d, e := s.e, h := s.h, l := s.l, f := s.f, pc := s.pc, sp := s.sp,
               halted := s.halted, ime := s.ime, imeDelay := s.imeDelay } = s) ∧
    (s.fault ≠ none → hostMove .reset s = none)

/-- The launch refuses exactly an image below 0x8000 bytes and an initial bank outside the image. Otherwise it builds the
power-on state, for every image and every parameter: the image as given, bank 0 mapped below and the initial bank above;
every register, engine flag and byte of storage 0, no fault; external RAM disabled; the bank bits of MBC5 those of the
initial bank, and of MBC1 1, 0 and 0 (10_state.md section 4 and section 8, 70_reset_and_hazards.md section 1, decisions D6,
D7 and D34 of the spec). -/
def Obligations.LaunchRefusesOrMapsImage : Prop :=
  ∀ (cfg : Config) (img : List Byte),
    (launch cfg img = none ↔ img.length < 0x8000 ∨ img.length < cfg.initialRomBank * 0x4000 + 0x4000) ∧
      ∀ s, launch cfg img = some s →
        (s.cfg = cfg ∧ s.romLen = img.length ∧ ∀ n, Memory.read s.rom n = img.getD n 0) ∧
        (∀ a : Word, (a.toNat < 0x4000 → busRead s a = .ok (img.getD a.toNat 0)) ∧
          (0x4000 ≤ a.toNat → a.toNat < 0x8000 →
            busRead s a = .ok (img.getD (a.toNat - 0x4000 + cfg.initialRomBank * 0x4000) 0)) ∧
          (stored a → busRead s a = .ok 0)) ∧
        ((∀ r, s.reg r = 0) ∧ s.f = 0 ∧ s.pc = 0 ∧ s.sp = 0 ∧ s.halted = false ∧ s.ime = false ∧ s.imeDelay = 0 ∧
          s.fault = none ∧ s.ie = 0 ∧ ∀ n, Memory.read s.extRam n = 0) ∧
        s.romBankOffset = cfg.initialRomBank * 0x4000 ∧ s.ramBank = 0 ∧ s.ramEnabled = false ∧
        s.mbc5Lo.toNat = cfg.initialRomBank % 0x100 ∧ s.mbc5Hi.toNat = cfg.initialRomBank / 0x100 % 2 ∧
        s.mbc1BankLo = 1 ∧ s.mbc1BankHi = 0 ∧ s.mbc1Mode = 0

/-- R46: the kind is derived once at load from the image byte at 0x0147. -/
def Obligations.LaunchClassifiesHeader : Prop :=
  ∀ (cfg : Config) (img : List Byte) (s : State), launch cfg img = some s →
    (img.getD 0x0147 0 ∈ [0x01, 0x02, 0x03] → s.kind = .mbc1) ∧
      (img.getD 0x0147 0 ∈ [0x05, 0x06] → s.kind = .mbc2) ∧
      (img.getD 0x0147 0 ∈ [0x0F, 0x10, 0x11, 0x12, 0x13] → s.kind = .mbc3) ∧
      (img.getD 0x0147 0 ∈ [0x19, 0x1A, 0x1B, 0x1C, 0x1D, 0x1E] → s.kind = .mbc5) ∧
      (img.getD 0x0147 0 ∉ [0x01, 0x02, 0x03, 0x05, 0x06, 0x0F, 0x10, 0x11, 0x12, 0x13, 0x19, 0x1A, 0x1B, 0x1C, 0x1D,
        0x1E] → s.kind = .noMbc)

/-! ## Registers and flags -/

/-- A pair is its first register high and its second low, and a pair written reads back (R33). A write of AF drops the low
nibble of F (R32, R34), and a read of AF masks it, which is the model's reading of R32 (log entry 12) (10_state.md
section 1). -/
def Obligations.PairsAreTheirHalves : Prop :=
  ∀ (s : State) (v : Word),
    (s.bc.toNat = s.b.toNat * 256 + s.c.toNat ∧ s.de.toNat = s.d.toNat * 256 + s.e.toNat ∧
      s.hl.toNat = s.h.toNat * 256 + s.l.toNat ∧ s.af.toNat = s.a.toNat * 256 + (s.f &&& 0xF0).toNat) ∧
    ((s.setBC v).b.toNat = v.toNat / 256 ∧ (s.setBC v).c.toNat = v.toNat % 256 ∧ (s.setBC v).bc = v ∧
      { s.setBC v with b := s.b, c := s.c } = s) ∧
    ((s.setDE v).d.toNat = v.toNat / 256 ∧ (s.setDE v).e.toNat = v.toNat % 256 ∧ (s.setDE v).de = v ∧
      { s.setDE v with d := s.d, e := s.e } = s) ∧
    ((s.setHL v).h.toNat = v.toNat / 256 ∧ (s.setHL v).l.toNat = v.toNat % 256 ∧ (s.setHL v).hl = v ∧
      { s.setHL v with h := s.h, l := s.l } = s) ∧
    ((s.setAF v).a.toNat = v.toNat / 256 ∧ (s.setAF v).f.toNat = v.toNat % 256 / 16 * 16 ∧
      (s.setAF v).af = v &&& 0xFFF0 ∧ { s.setAF v with a := s.a, f := s.f } = s)

/-- A flag is read from its bit of F; to set one leaves the other three and keeps the low nibble 0 (R35). Every write of F
masks the low nibble (R32), and a read of F as a byte masks it too, which is the model's reading of R32 (log entry 12)
(10_state.md section 1). -/
def Obligations.FlagAccessors : Prop :=
  ∀ (s : State) (v : Bool) (byte : Byte),
    (s.getFlag .z = s.f.getLsbD 7 ∧ s.getFlag .n = s.f.getLsbD 6 ∧ s.getFlag .h = s.f.getLsbD 5 ∧
      s.getFlag .c = s.f.getLsbD 4) ∧
    (∀ w q : Flag, (s.setFlag w v).getFlag q = if q = w then v else s.getFlag q) ∧
    (∀ w : Flag, (s.setFlag w v).f &&& 0x0F = 0 ∧ { s.setFlag w v with f := s.f } = s) ∧
    (s.writeF byte).f = byte &&& 0xF0 ∧ s.readF = s.f &&& 0xF0

/-! ## The bus -/

/-- A byte written to video RAM, work RAM or its echo, sprite memory, the I/O bank, high RAM or IE reads back, every other
byte reads as before, and no register changes (20_memory.md section 2; decision D15 of the spec for the I/O bank). -/
def Obligations.StoredByteReadsBack : Prop :=
  ∀ (s : State) (a : Word) (v : Byte), stored a →
    ∃ t, memWrite a v s = .ok () t ∧ Stored a v s t ∧ { t with mem := s.mem, ie := s.ie } = s

/-- R78: an echo address is the byte 0x2000 below it, for reads and for writes; 0xDE00-0xDFFF has no echo. -/
def Obligations.EchoIsWorkRam : Prop :=
  ∀ (s : State) (a : Word) (v : Byte),
    (0xE000 ≤ a.toNat → a.toNat ≤ 0xFDFF →
      busRead s a = busRead s (a - 0x2000) ∧ memWrite a v s = memWrite (a - 0x2000) v s) ∧
    (0xC000 ≤ a.toNat → a.toNat ≤ 0xDFFF → ∃ t, memWrite a v s = .ok () t ∧ busRead t a = .ok v ∧
      (a.toNat ≤ 0xDDFF → busRead t (a + 0x2000) = .ok v)) ∧
    (0xDE00 ≤ a.toNat → a.toNat ≤ 0xDFFF → ∀ t, memWrite a v s = .ok () t → ∀ b, b ≠ a → busRead t b = busRead s b)

/-- R80, R90, R91: the unusable range reads 0x00 and a write there has no effect, and disabled external RAM reads 0xFF; the
low ROM window reads bank 0 of the image and the high one the mapped bank, inside the image. -/
def Obligations.RomAndUnusableRange : Prop :=
  ∀ (s : State) (a : Word) (v : Byte),
    (0xFEA0 ≤ a.toNat → a.toNat ≤ 0xFEFF → busRead s a = .ok 0x00 ∧ memWrite a v s = .ok () s) ∧
    (0xA000 ≤ a.toNat → a.toNat ≤ 0xBFFF → s.ramEnabled = false → busRead s a = .ok 0xFF) ∧
    (s.Inv → a.toNat ≤ 0x3FFF → busRead s a = .ok (Memory.read s.rom a.toNat) ∧ a.toNat < s.romLen) ∧
    (s.Inv → 0x4000 ≤ a.toNat → a.toNat ≤ 0x7FFF →
      busRead s a = .ok (Memory.read s.rom (a.toNat - 0x4000 + s.romBankOffset)) ∧
        a.toNat - 0x4000 + s.romBankOffset < s.romLen)

/-- A read faults exactly where enabled external RAM ends before the byte, and then with the address (60_exceptions.md
section 1, a derivation of the spec; 20_memory.md section 3 and section 4, decision D8). -/
def Obligations.ReadFaultsExactly : Prop :=
  ∀ (s : State) (a : Word) (k : FaultRecord), busRead s a = .error k ↔
    (0xA000 ≤ a.toNat ∧ a.toNat ≤ 0xBFFF ∧ s.ramEnabled = true ∧
      s.cfg.extRamSize ≤ s.ramBank.toNat * 0x2000 + (a.toNat - 0xA000)) ∧ k = .malformedCartridgeAddr a

/-- External RAM, read and written by its index, the bank times 0x2000 and the offset in the window. Disabled it reads
0xFF; enabled, a read inside its size returns the byte of that index. Without a controller a write faults; else disabled it
ignores a write, and enabled it stores at that index inside its size, every other byte of every bank as before, and faults
beyond it (20_memory.md section 3 and section 4, decisions D8, D13 and D14 of the spec). -/
def Obligations.ExternalRamWrites : Prop :=
  ∀ (s : State) (a : Word) (v : Byte) (i : Nat), 0xA000 ≤ a.toNat → a.toNat ≤ 0xBFFF →
    i = s.ramBank.toNat * 0x2000 + (a.toNat - 0xA000) →
    (s.ramEnabled = false → busRead s a = .ok 0xFF) ∧
    (s.ramEnabled = true → i < s.cfg.extRamSize → busRead s a = .ok (Memory.read s.extRam i)) ∧
    (s.kind = .noMbc → memWrite a v s = .raised { s with fault := some (.malformedCartridgeAddr a) }) ∧
    (s.kind ≠ .noMbc → s.ramEnabled = false → memWrite a v s = .ok () s) ∧
    (s.kind ≠ .noMbc → s.ramEnabled = true →
      (s.cfg.extRamSize ≤ i → memWrite a v s = .raised { s with fault := some (.malformedCartridgeAddr a) }) ∧
      (i < s.cfg.extRamSize → ∃ t, memWrite a v s = .ok () t ∧ Stored a v s t ∧
        (∀ n, Memory.read t.extRam n = if n = i then v else Memory.read s.extRam n) ∧ { t with extRam := s.extRam } = s))

/-- R95: the bank's offset is mapped where the bank lies inside the image, and else the selection is fatal. -/
def Obligations.RomBankSelection : Prop :=
  ∀ (s : State) (bank : Nat),
    (bank * 0x4000 + 0x4000 ≤ s.romLen → ∃ t, selectRomBank bank s = .ok () t ∧ t.romBankOffset = bank * 0x4000 ∧
      { t with romBankOffset := s.romBankOffset } = s) ∧
    (s.romLen < bank * 0x4000 + 0x4000 →
      selectRomBank bank s = .raised { s with fault := some (.malformedCartridgeOffset (bank * 0x4000)) })

/-- No write handler, kind None and MBC1 with MBC1_MODE Fatal: every write to ROM is a malformed-cartridge fault. MBC1 in
Standard mode: the four windows; a selection outside the image keeps the bank bits just written (20_memory.md section 4,
60_exceptions.md section 1, decision D9 of the spec). -/
def Obligations.NoHandlerAndMbc1Writes : Prop :=
  ∀ (s : State) (a : Word) (v : Byte),
    (a.toNat ≤ 0x7FFF → noHandler s → memWrite a v s = .raised { s with fault := some (.malformedCartridgeAddr a) }) ∧
    (s.kind = .mbc1 → s.cfg.mbc1Mode = .standard →
      (a.toNat ≤ 0x1FFF → memWrite a v s = .ok () { s with ramEnabled := decide (v.toNat % 16 = 0xA) }) ∧
      (0x2000 ≤ a.toNat → a.toNat ≤ 0x3FFF → ∃ lo : BitVec 5,
        lo.toNat = (if v.toNat % 32 = 0 then 1 else v.toNat % 32) ∧
        memWrite a v s = selectRomBank (s.mbc1BankHi.toNat * 32 + lo.toNat) { s with mbc1BankLo := lo }) ∧
      (0x4000 ≤ a.toNat → a.toNat ≤ 0x5FFF → ∃ (hi : BitVec 2) (bank : Nat), hi.toNat = v.toNat % 4 ∧
        bank = hi.toNat * 32 + s.mbc1BankLo.toNat ∧
        (bank * 0x4000 + 0x4000 ≤ s.romLen → ∃ t, memWrite a v s = .ok () t ∧
          t.mbc1BankHi = hi ∧ t.romBankOffset = bank * 0x4000 ∧
          t.ramBank.toNat = (if s.mbc1Mode = 1 then hi.toNat else 0) ∧
          { t with mbc1BankHi := s.mbc1BankHi, romBankOffset := s.romBankOffset, ramBank := s.ramBank } = s) ∧
        (s.romLen < bank * 0x4000 + 0x4000 → memWrite a v s =
          .raised { s with mbc1BankHi := hi, fault := some (.malformedCartridgeOffset (bank * 0x4000)) })) ∧
      (0x6000 ≤ a.toNat → a.toNat ≤ 0x7FFF → ∃ t, memWrite a v s = .ok () t ∧ t.mbc1Mode.toNat = v.toNat % 2 ∧
        t.ramBank.toNat = (if v.toNat % 2 = 1 then s.mbc1BankHi.toNat else 0) ∧
        { t with mbc1Mode := s.mbc1Mode, ramBank := s.ramBank } = s))

/-- MBC2: bit 8 of the address tells the RAM toggle from the bank select, and every other write is illegal. MBC3: RAM
enable, ROM bank with 0 taken as 1, RAM bank (20_memory.md section 4, decisions D10 and D11 of the spec). -/
def Obligations.Mbc2AndMbc3Writes : Prop :=
  ∀ (s : State) (a : Word) (v : Byte),
    (s.kind = .mbc2 →
      (a.toNat ≤ 0x1FFF → a.toNat / 256 % 2 = 0 → memWrite a v s = .ok () { s with ramEnabled := !s.ramEnabled }) ∧
      (0x2000 ≤ a.toNat → a.toNat ≤ 0x3FFF → a.toNat / 256 % 2 = 1 → memWrite a v s = selectRomBank (v.toNat % 16) s) ∧
      ((a.toNat ≤ 0x1FFF ∧ a.toNat / 256 % 2 = 1) ∨ (0x2000 ≤ a.toNat ∧ a.toNat ≤ 0x3FFF ∧ a.toNat / 256 % 2 = 0) ∨
          (0x4000 ≤ a.toNat ∧ a.toNat ≤ 0x7FFF) →
        memWrite a v s = .raised { s with fault := some (.illegalWrite a v) })) ∧
    (s.kind = .mbc3 →
      (a.toNat ≤ 0x1FFF → memWrite a v s = .ok () { s with ramEnabled := decide (v.toNat % 16 = 0xA) }) ∧
      (0x2000 ≤ a.toNat → a.toNat ≤ 0x3FFF →
        memWrite a v s = selectRomBank (if v.toNat % 128 = 0 then 1 else v.toNat % 128) s) ∧
      (0x4000 ≤ a.toNat → a.toNat ≤ 0x7FFF → memWrite a v s = .ok () { s with ramBank := v }))

/-- MBC5: RAM enable; the low eight bits of the bank, or bit 8 of it from the low bit of the value, and each write applies
the 9-bit bank at once; RAM bank; a write above 0x5FFF is illegal (20_memory.md section 4, decisions D11 and D12 of the
spec). -/
def Obligations.Mbc5Writes : Prop :=
  ∀ (s : State) (a : Word) (v : Byte), s.kind = .mbc5 →
    (a.toNat ≤ 0x1FFF → memWrite a v s = .ok () { s with ramEnabled := decide (v.toNat % 16 = 0xA) }) ∧
    (0x2000 ≤ a.toNat → a.toNat ≤ 0x2FFF →
      memWrite a v s = selectRomBank (s.mbc5Hi.toNat * 0x100 + v.toNat) { s with mbc5Lo := v }) ∧
    (0x3000 ≤ a.toNat → a.toNat ≤ 0x3FFF → ∃ hi : BitVec 1, hi.toNat = v.toNat % 2 ∧
      memWrite a v s = selectRomBank (hi.toNat * 0x100 + s.mbc5Lo.toNat) { s with mbc5Hi := hi }) ∧
    (0x4000 ≤ a.toNat → a.toNat ≤ 0x5FFF → memWrite a v s = .ok () { s with ramBank := v }) ∧
    (0x6000 ≤ a.toNat → a.toNat ≤ 0x7FFF → memWrite a v s = .raised { s with fault := some (.illegalWrite a v) })

/-! ## Loads -/

/-- LD r,r' and LD r,n (41_load8.md, the register forms). -/
def Obligations.LoadRegister : Prop :=
  ∀ (s : State) (dst src : Reg8) (n : Byte),
    (∃ t, exec (.ldReg dst src) s = .next t ∧ t.reg dst = s.reg src ∧ t.setReg dst (s.reg dst) = s) ∧
    (∃ t, exec (.ldRegN dst n) s = .next t ∧ t.reg dst = n ∧ t.setReg dst (s.reg dst) = s)

/-- The 8-bit loads from memory: the register becomes the byte read and nothing else changes; a read that faults records
its fault and nothing else changes (41_load8.md, the forms of `Loads8`; 60_exceptions.md section 1). -/
def Obligations.LoadFromMemory : Prop :=
  ∀ (s : State) (i : Instr) (dst : Reg8) (a : Word), Loads8 s i dst a →
    (∀ v, busRead s a = .ok v → ∃ t, exec i s = .next t ∧ t.reg dst = v ∧ t.setReg dst (s.reg dst) = s) ∧
    (∀ k, busRead s a = .error k → exec i s = .next { s with fault := some k })

/-- LD A,(HL+) and LD A,(HL-): A becomes the byte read, then HL moves by one with wrap. LD (HL+),A and LD (HL-),A: A is
stored at the old HL, then HL moves. An access that faults leaves HL (41_load8.md; decision D4 of the spec). -/
def Obligations.LoadOrStoreAndStepHl : Prop :=
  ∀ s : State,
    (∀ v, busRead s s.hl = .ok v →
      (∃ t, exec .ldAMemHLInc s = .next t ∧ t.a = v ∧ t.hl = s.hl + 1 ∧
        { t with a := s.a, h := s.h, l := s.l } = s) ∧
      (∃ t, exec .ldAMemHLDec s = .next t ∧ t.a = v ∧ t.hl = s.hl - 1 ∧
        { t with a := s.a, h := s.h, l := s.l } = s)) ∧
    (∀ k, busRead s s.hl = .error k → exec .ldAMemHLInc s = .next { s with fault := some k } ∧
      exec .ldAMemHLDec s = .next { s with fault := some k }) ∧
    (stored s.hl →
      (∃ t, exec .ldMemHLIncA s = .next t ∧ Stored s.hl s.a s t ∧ t.hl = s.hl + 1 ∧
        { t with mem := s.mem, ie := s.ie, h := s.h, l := s.l } = s) ∧
      (∃ t, exec .ldMemHLDecA s = .next t ∧ Stored s.hl s.a s t ∧ t.hl = s.hl - 1 ∧
        { t with mem := s.mem, ie := s.ie, h := s.h, l := s.l } = s)) ∧
    (∀ t, memWrite s.hl s.a s = .raised t → exec .ldMemHLIncA s = .next t ∧ exec .ldMemHLDecA s = .next t) ∧
    (∀ t, memWrite s.hl s.a s = .ok () t →
      exec .ldMemHLIncA s = .next (t.setHL (s.hl + 1)) ∧ exec .ldMemHLDecA s = .next (t.setHL (s.hl - 1)))

/-- The 8-bit stores, and LD (nn),SP: to storage, the byte at the address becomes the value and nothing else changes;
anywhere else, the store is one bus write of the value at the address. LD (nn),SP writes the low byte of SP at nn, then the
high byte at the next address, which wraps, the second only if the first raised nothing (41_load8.md, the forms of
`Stores8`; 42_load16_stack.md; 60_exceptions.md section 1; decision D5 of the spec). -/
def Obligations.StoreToMemory : Prop :=
  (∀ (s : State) (i : Instr) (a : Word) (v : Byte), Stores8 s i a v →
    (stored a → ∃ t, exec i s = .next t ∧ Stored a v s t ∧ { t with mem := s.mem, ie := s.ie } = s) ∧
    exec i s = .next (memWrite a v s).state) ∧
  ∀ (s : State) (nn : Word),
    (stored nn → stored (nn + 1) → ∃ u t, exec (.ldMemNnSP nn) s = .next t ∧ Stored nn (loByte s.sp) s u ∧
      Stored (nn + 1) (hiByte s.sp) u t ∧ { t with mem := s.mem, ie := s.ie } = s) ∧
    exec (.ldMemNnSP nn) s = .next (match memWrite nn (loByte s.sp) s with
      | .ok _ u => (memWrite (nn + 1) (hiByte s.sp) u).state
      | .raised u => u)

/-- LD rr,nn, LD SP,HL, INC rr and DEC rr: the pair becomes the value, no flag and nothing else changes
(42_load16_stack.md; 44_alu16.md; decision D4 of the spec). -/
def Obligations.PairLoadsAndSteps : Prop :=
  ∀ (s : State) (nn : Word),
    (∀ (p : Pair) (i : Instr) (v : Word),
      (i = .ldPairNn p nn ∧ v = nn) ∨ (i = .incPair p ∧ v = s.pair p + 1) ∨ (i = .decPair p ∧ v = s.pair p - 1) →
      ∃ t, exec i s = .next t ∧ t.pair p = v ∧
        match p with
        | .bc => { t with b := s.b, c := s.c } = s
        | .de => { t with d := s.d, e := s.e } = s
        | .hl => { t with h := s.h, l := s.l } = s
        | .sp => { t with sp := s.sp } = s) ∧
    (∃ t, exec .ldSPHL s = .next t ∧ t.sp = s.hl ∧ { t with sp := s.sp } = s)

/-- PUSH rr: SP moves down by 2 and the pair is stored there, the low byte lower; elsewhere in the address space the
push is its two bus writes, in that order. POP rr: the pair becomes the word at SP, low byte first, SP moves up by 2; POP
AF drops the low nibble of F; a read that faults leaves SP and the pair (42_load16_stack.md; 40_engine.md section 1;
10_state.md section 1; decisions D4 and D5 of the spec). -/
def Obligations.PushAndPop : Prop :=
  ∀ (s : State) (p : StackPair),
    (stored (s.sp - 2) → stored (s.sp - 1) → ∃ t, exec (.push p) s = .next t ∧ Pushed (s.stackPair p) s t ∧
      { t with sp := s.sp, mem := s.mem, ie := s.ie } = s) ∧
    exec (.push p) s = .next (pushWrites (s.stackPair p) s).state ∧
    (∀ lo hi, busRead s s.sp = .ok lo → busRead s (s.sp + 1) = .ok hi → ∃ t, exec (.pop p) s = .next t ∧
      t.sp = s.sp + 2 ∧
      match p with
      | .bc => t.b = hi ∧ t.c = lo ∧ { t with b := s.b, c := s.c, sp := s.sp } = s
      | .de => t.d = hi ∧ t.e = lo ∧ { t with d := s.d, e := s.e, sp := s.sp } = s
      | .hl => t.h = hi ∧ t.l = lo ∧ { t with h := s.h, l := s.l, sp := s.sp } = s
      | .af => t.a = hi ∧ t.f = lo &&& 0xF0 ∧ { t with a := s.a, f := s.f, sp := s.sp } = s) ∧
    (∀ k, busRead s s.sp = .error k ∨ ((∃ lo, busRead s s.sp = .ok lo) ∧ busRead s (s.sp + 1) = .error k) →
      exec (.pop p) s = .next { s with fault := some k })

/-! ## Arithmetic and logic -/

/-- R180: ADD A. -/
def Obligations.AddToA : Prop :=
  ∀ (s : State) (i : Instr) (v : Byte), AluOperand s .add i v → ∃ t, exec i s = .next t ∧
    t.a.toNat = (s.a.toNat + v.toNat) % 256 ∧ t.flags.z = decide (t.a = 0) ∧ t.flags.n = false ∧
    t.flags.h = decide (15 < s.a.toNat % 16 + v.toNat % 16) ∧ t.flags.c = decide (255 < s.a.toNat + v.toNat) ∧
    t.f &&& 0x0F = 0 ∧ { t with a := s.a, f := s.f } = s

/-- ADC A and SBC A, with the incoming carry in the sums, Z from the stored result (40_engine.md section 3; a derivation
and decision D36 of the spec). -/
def Obligations.AddAndSubtractWithCarry : Prop :=
  ∀ (s : State) (i : Instr) (v : Byte) (cy : Nat), cy = (if s.f.getLsbD 4 then 1 else 0) →
    (AluOperand s .adc i v → ∃ t, exec i s = .next t ∧
      t.a.toNat = (s.a.toNat + v.toNat + cy) % 256 ∧ t.flags.z = decide (t.a = 0) ∧ t.flags.n = false ∧
      t.flags.h = decide (15 < s.a.toNat % 16 + v.toNat % 16 + cy) ∧
      t.flags.c = decide (255 < s.a.toNat + v.toNat + cy) ∧ t.f &&& 0x0F = 0 ∧ { t with a := s.a, f := s.f } = s) ∧
    (AluOperand s .sbc i v → ∃ t, exec i s = .next t ∧
      t.a.toNat = (s.a.toNat + 512 - v.toNat - cy) % 256 ∧ t.flags.z = decide (t.a = 0) ∧ t.flags.n = true ∧
      t.flags.h = decide (s.a.toNat % 16 < v.toNat % 16 + cy) ∧
      t.flags.c = decide (s.a.toNat < v.toNat + cy) ∧ t.f &&& 0x0F = 0 ∧ { t with a := s.a, f := s.f } = s)

/-- R182, R187: SUB and CP give the same flags, the result of SUB is the difference, and CP leaves A. -/
def Obligations.SubtractAndCompare : Prop :=
  ∀ (s : State) (i : Instr) (v : Byte),
    (AluOperand s .sub i v → ∃ t, exec i s = .next t ∧ t.a.toNat = (s.a.toNat + 256 - v.toNat) % 256 ∧
      t.flags.z = decide (s.a = v) ∧ t.flags.n = true ∧ t.flags.h = decide (s.a.toNat % 16 < v.toNat % 16) ∧
      t.flags.c = decide (s.a.toNat < v.toNat) ∧ t.f &&& 0x0F = 0 ∧ { t with a := s.a, f := s.f } = s) ∧
    (AluOperand s .cp i v → ∃ t, exec i s = .next t ∧
      t.flags.z = decide (s.a = v) ∧ t.flags.n = true ∧ t.flags.h = decide (s.a.toNat % 16 < v.toNat % 16) ∧
      t.flags.c = decide (s.a.toNat < v.toNat) ∧ t.f &&& 0x0F = 0 ∧ { t with f := s.f } = s)

/-- R184, R185, R186: AND, OR and XOR. -/
def Obligations.LogicWithA : Prop :=
  ∀ (s : State) (i : Instr) (v : Byte) (op : AluOp), AluOperand s op i v → op = .and ∨ op = .or ∨ op = .xor →
    ∃ t, exec i s = .next t ∧
      (∀ j : Nat, t.a.getLsbD j = match op with
        | .and => s.a.getLsbD j && v.getLsbD j
        | .or => s.a.getLsbD j || v.getLsbD j
        | _ => s.a.getLsbD j != v.getLsbD j) ∧
      t.flags.z = decide (t.a = 0) ∧ t.flags.n = false ∧ t.flags.h = decide (op = .and) ∧ t.flags.c = false ∧
      t.f &&& 0x0F = 0 ∧ { t with a := s.a, f := s.f } = s

/-- INC r and DEC r: one up or down with wrap, Z, N and H set, C as it was (40_engine.md section 3, a derivation of the
spec for H; 43_alu8.md section 2). -/
def Obligations.IncrementAndDecrement : Prop :=
  ∀ (s : State) (r : Reg8),
    (∃ t, exec (.incReg r) s = .next t ∧ (t.reg r).toNat = ((s.reg r).toNat + 1) % 256 ∧
      t.flags.z = decide (t.reg r = 0) ∧ t.flags.n = false ∧ t.flags.h = decide ((s.reg r).toNat % 16 = 15) ∧
      t.flags.c = s.flags.c ∧ t.f &&& 0x0F = 0 ∧ { t.setReg r (s.reg r) with f := s.f } = s) ∧
    (∃ t, exec (.decReg r) s = .next t ∧ (t.reg r).toNat = ((s.reg r).toNat + 255) % 256 ∧
      t.flags.z = decide (t.reg r = 0) ∧ t.flags.n = true ∧ t.flags.h = decide ((s.reg r).toNat % 16 = 0) ∧
      t.flags.c = s.flags.c ∧ t.f &&& 0x0F = 0 ∧ { t.setReg r (s.reg r) with f := s.f } = s)

/-- The read-modify-writes of the byte at HL: read once, the flags set, the result written once at the same address; to
storage nothing else changes. That the flags are set before the write is the model's reading (log entry 5). A read that
faults changes nothing but the fault, for these forms and for the ALU operations and BIT on the byte at HL (40_engine.md
section 1; 43_alu8.md, 45_rotate_shift.md, 46_bit.md; 60_exceptions.md section 1). -/
def Obligations.ModifyMemory : Prop :=
  ∀ s : State,
    (∀ (i : Instr) (v w : Byte) (fl : Option Flags), busRead s s.hl = .ok v → Replaces s v w i fl →
      (stored s.hl → ∃ t, exec i s = .next t ∧ Stored s.hl w s t ∧ t.f = (s.withFlags fl).f ∧
        { t with mem := s.mem, ie := s.ie, f := s.f } = s) ∧
      exec i s = .next (memWrite s.hl w (s.withFlags fl)).state) ∧
    (∀ k, busRead s s.hl = .error k →
      (∀ i ∈ [Instr.incMemHL, Instr.decMemHL], exec i s = .next { s with fault := some k }) ∧
      (∀ r, exec (.rotMemHL r) s = .next { s with fault := some k }) ∧
      (∀ b, exec (.resMemHL b) s = .next { s with fault := some k } ∧
        exec (.setMemHL b) s = .next { s with fault := some k } ∧
        exec (.bitMemHL b) s = .next { s with fault := some k }) ∧
      ∀ op, exec (.aluMemHL op) s = .next { s with fault := some k })

/-- DAA, the algorithm as written, for every A and every flags (40_engine.md section 6; the algorithm is the spec's from
general knowledge). -/
def Obligations.DecimalAdjust : Prop :=
  ∀ s : State, ∃ t, exec .daa s = .next t ∧
    (s.flags.n = false → ∀ a1 a2 : Nat,
      a1 = (if s.flags.c = true ∨ 0x99 < s.a.toNat then s.a.toNat + 0x60 else s.a.toNat) →
      a2 = (if s.flags.h = true ∨ 9 < s.a.toNat % 16 then a1 + 0x06 else a1) →
      t.a.toNat = a2 % 256 ∧ t.flags.c = (s.flags.c || decide (0x99 < s.a.toNat))) ∧
    (s.flags.n = true → ∀ a1 a2 : Int,
      a1 = (if s.flags.c = true then (s.a.toNat : Int) - 0x60 else s.a.toNat) →
      a2 = (if s.flags.h = true then a1 - 0x06 else a1) →
      (t.a.toNat : Int) = a2 % 256 ∧ t.flags.c = s.flags.c) ∧
    t.flags.z = decide (t.a = 0) ∧ t.flags.n = s.flags.n ∧ t.flags.h = false ∧
    t.f &&& 0x0F = 0 ∧ { t with a := s.a, f := s.f } = s

/-- Decimal arithmetic works: for two packed decimal bytes, ADC then DAA gives the decimal sum and carry, and SBC then DAA
the decimal difference and borrow (40_engine.md section 3 and section 6, what DAA is for). -/
def Obligations.DecimalArithmetic : Prop :=
  ∀ (s : State) (x1 x0 y1 y0 cy : Nat), x1 ≤ 9 → x0 ≤ 9 → y1 ≤ 9 → y0 ≤ 9 → s.a.toNat = x1 * 16 + x0 →
    cy = (if s.f.getLsbD 4 then 1 else 0) →
    (∃ t u, exec (.adcAN (BitVec.ofNat 8 (y1 * 16 + y0))) s = .next t ∧ exec .daa t = .next u ∧
      ∃ r1 r0, r1 ≤ 9 ∧ r0 ≤ 9 ∧ u.a.toNat = r1 * 16 + r0 ∧
        r1 * 10 + r0 = (x1 * 10 + x0 + (y1 * 10 + y0) + cy) % 100 ∧
        u.flags.c = decide (100 ≤ x1 * 10 + x0 + (y1 * 10 + y0) + cy)) ∧
    (∃ t u, exec (.sbcAN (BitVec.ofNat 8 (y1 * 16 + y0))) s = .next t ∧ exec .daa t = .next u ∧
      ∃ r1 r0, r1 ≤ 9 ∧ r0 ≤ 9 ∧ u.a.toNat = r1 * 16 + r0 ∧
        r1 * 10 + r0 = (x1 * 10 + x0 + 100 - (y1 * 10 + y0) - cy) % 100 ∧
        u.flags.c = decide (x1 * 10 + x0 < y1 * 10 + y0 + cy))

/-- CPL, SCF and CCF: what each sets, and what it leaves (43_alu8.md section 3). -/
def Obligations.ComplementAndCarryFlag : Prop :=
  ∀ s : State,
    (∃ t, exec .cpl s = .next t ∧ t.a.toNat = 255 - s.a.toNat ∧
      t.flags = { z := s.flags.z, n := true, h := true, c := s.flags.c } ∧ t.f &&& 0x0F = 0 ∧
      { t with a := s.a, f := s.f } = s) ∧
    (∃ t, exec .scf s = .next t ∧ t.flags = { z := s.flags.z, n := false, h := false, c := true } ∧
      t.f &&& 0x0F = 0 ∧ { t with f := s.f } = s) ∧
    (∃ t, exec .ccf s = .next t ∧ t.flags = { z := s.flags.z, n := false, h := false, c := !s.flags.c } ∧
      t.f &&& 0x0F = 0 ∧ { t with f := s.f } = s)

/-- R201: ADD HL,rr, with H from bit 11, C from bit 15, N clear and Z as it was. -/
def Obligations.AddToHl : Prop :=
  ∀ (s : State) (p : Pair), ∃ t, exec (.addHL p) s = .next t ∧
    t.hl.toNat = (s.hl.toNat + (s.pair p).toNat) % 65536 ∧ t.flags.z = s.flags.z ∧ t.flags.n = false ∧
    t.flags.h = decide (0xFFF < s.hl.toNat % 0x1000 + (s.pair p).toNat % 0x1000) ∧
    t.flags.c = decide (0xFFFF < s.hl.toNat + (s.pair p).toNat) ∧ t.f &&& 0x0F = 0 ∧
    { t with h := s.h, l := s.l, f := s.f } = s

/-- ADD SP,e and LD HL,SP+e: the signed sum, the flags from the unsigned sum of the low bytes (40_engine.md section 5,
decision D26 of the spec). -/
def Obligations.SpPlusDisplacement : Prop :=
  ∀ (s : State) (e : Byte),
    (∃ t, exec (.addSPE8 e) s = .next t ∧ (t.sp.toNat : Int) = ((s.sp.toNat : Int) + e.toInt) % 65536 ∧
      t.flags.z = false ∧ t.flags.n = false ∧ t.flags.h = decide (15 < s.sp.toNat % 16 + e.toNat % 16) ∧
      t.flags.c = decide (255 < s.sp.toNat % 256 + e.toNat) ∧ t.f &&& 0x0F = 0 ∧
      { t with sp := s.sp, f := s.f } = s) ∧
    (∃ t, exec (.ldHLSPE8 e) s = .next t ∧ (t.hl.toNat : Int) = ((s.sp.toNat : Int) + e.toInt) % 65536 ∧
      t.flags.z = false ∧ t.flags.n = false ∧ t.flags.h = decide (15 < s.sp.toNat % 16 + e.toNat % 16) ∧
      t.flags.c = decide (255 < s.sp.toNat % 256 + e.toNat) ∧ t.f &&& 0x0F = 0 ∧
      { t with h := s.h, l := s.l, f := s.f } = s)

/-! ## Rotates and bits -/

/-- The rotates, the shifts and SWAP on a register: every bit of the result, the bit shifted out in C, Z from the result,
N and H clear (40_engine.md section 4; the shifts and SWAP are the spec's from general knowledge). -/
def Obligations.RotateRegister : Prop :=
  ∀ (s : State) (k : RotOp) (r : Reg8), ∃ t, exec (.rotReg k r) s = .next t ∧
    (∀ j : Nat, j < 8 → (t.reg r).getLsbD j = rotatedBit k (s.reg r) s.flags.c j) ∧
    t.flags = { z := decide (t.reg r = 0), n := false, h := false, c := rotatedOut k (s.reg r) } ∧
    t.f &&& 0x0F = 0 ∧ { t.setReg r (s.reg r) with f := s.f } = s

/-- RLCA, RRCA, RLA and RRA rotate A as the CB forms do and always clear Z (40_engine.md section 7, decision D25 of the
spec). -/
def Obligations.RotateAccumulator : Prop :=
  ∀ (s : State) (i : Instr) (k : RotOp),
    (i = .rlca ∧ k = .rlc) ∨ (i = .rrca ∧ k = .rrc) ∨ (i = .rla ∧ k = .rl) ∨ (i = .rra ∧ k = .rr) →
    ∃ t, exec i s = .next t ∧ (∀ j : Nat, j < 8 → t.a.getLsbD j = rotatedBit k s.a s.flags.c j) ∧
      t.flags = { z := false, n := false, h := false, c := rotatedOut k s.a } ∧
      t.f &&& 0x0F = 0 ∧ { t with a := s.a, f := s.f } = s

/-- BIT b: Z from the bit, N clear, H set, C as it was, and no register or byte of memory is written. RES b,r and SET b,r:
one bit of the register, and nothing else (40_engine.md section 4; 46_bit.md). -/
def Obligations.BitInstructions : Prop :=
  ∀ (s : State) (b : Fin 8),
    (∀ (i : Instr) (v : Byte), (∃ r, i = .bitReg b r ∧ v = s.reg r) ∨ (i = .bitMemHL b ∧ busRead s s.hl = .ok v) →
      ∃ t, exec i s = .next t ∧ t.flags = { z := !v.getLsbD b.val, n := false, h := true, c := s.flags.c } ∧
        t.f &&& 0x0F = 0 ∧ { t with f := s.f } = s) ∧
    ∀ r : Reg8,
      (∃ t, exec (.resReg b r) s = .next t ∧
        (∀ j : Nat, (t.reg r).getLsbD j = (decide (j ≠ b.val) && (s.reg r).getLsbD j)) ∧
        t.setReg r (s.reg r) = s) ∧
      (∃ t, exec (.setReg b r) s = .next t ∧
        (∀ j : Nat, (t.reg r).getLsbD j = (decide (j = b.val) || (s.reg r).getLsbD j)) ∧
        t.setReg r (s.reg r) = s)

/-! ## Control transfer -/

/-- A jump that is taken sets PC and nothing else; a conditional jump, call or return that is not taken changes nothing
(47_control.md; decision D4 of the spec for the wrap of JR). -/
def Obligations.JumpsAndUntaken : Prop :=
  ∀ (s : State) (i : Instr),
    (∀ target, Jumps s i target → exec i s = .next { s with pc := target }) ∧ (Untaken s i → exec i s = .next s)

/-- CALL, CALL cc made, and RST: push the address after the instruction, then jump; a push that faults does not jump. RET,
RET cc made, and RETI: PC becomes the word at SP, SP moves up by 2, and RETI also enables at once; a read that faults
changes nothing but the fault (47_control.md; 60_exceptions.md section 2; decisions D5 and D22 of the spec). -/
def Obligations.CallsAndReturns : Prop :=
  ∀ s : State,
    (∀ (i : Instr) (target : Word), Calls s i target →
      (stored (s.sp - 2) → stored (s.sp - 1) → ∃ t, exec i s = .next t ∧ Pushed s.pc s t ∧ t.pc = target ∧
        { t with sp := s.sp, pc := s.pc, mem := s.mem, ie := s.ie } = s) ∧
      exec i s = .next (match pushWrites s.pc s with
        | .ok _ t => { t with pc := target }
        | .raised t => t)) ∧
    (∀ lo hi, busRead s s.sp = .ok lo → busRead s (s.sp + 1) = .ok hi →
      (∀ i, Returns s i → exec i s = .next { s with pc := wordOf hi lo, sp := s.sp + 2 }) ∧
      exec .reti s = .next { s with pc := wordOf hi lo, sp := s.sp + 2, ime := true, imeDelay := 0 }) ∧
    (∀ k, busRead s s.sp = .error k ∨ ((∃ lo, busRead s s.sp = .ok lo) ∧ busRead s (s.sp + 1) = .error k) →
      (∀ i, Returns s i → exec i s = .next { s with fault := some k }) ∧
      exec .reti s = .next { s with fault := some k })

/-! ## CPU control -/

/-- NOP, DI, EI and HALT: NOP changes nothing, DI clears `ime` and its delay, EI starts the delay, HALT halts, or raises
Unmodelled(HaltBug) with dispatch on, `ime` clear and a source pending (48_cpu_control.md; decisions D20, D21, D23 and
D33 of the spec). -/
def Obligations.EngineControl : Prop :=
  ∀ s : State, exec .nop s = .next s ∧ exec .di s = .next { s with ime := false, imeDelay := 0 } ∧
    exec .ei s = .next { s with imeDelay := 2 } ∧
    (s.cfg.interruptDispatch = false ∨ s.ime = true ∨ pending s = 0 → exec .halt s = .next { s with halted := true }) ∧
    (s.cfg.interruptDispatch = true → s.ime = false → pending s ≠ 0 →
      exec .halt s = .next { s with fault := some (.unmodelled .haltBug) })

/-- STOP and the eleven illegal opcodes raise their fault, after the fetch of their one byte: the record of an illegal
opcode names the byte and the address it was fetched from (48_cpu_control.md; 60_exceptions.md section 1; decisions D24,
D28 and D31 of the spec). -/
def Obligations.UndefinedOpcodesRaise : Prop :=
  ∀ s : State, exec .stop s = .next { s with fault := some (.unmodelled .stop) } ∧
    (∀ op i, (op, i) ∈ Instr.illegalRows →
      exec i s = .next { s with fault := some (.unimplementedOpcode op (s.pc - 1)) }) ∧
    (∀ op ∈ [0xD3, 0xDB, 0xDD, 0xE3, 0xE4, 0xEB, 0xEC, 0xED, 0xF4, 0xFC, 0xFD], s.fault = none →
      ¬ dispatchDue (wake s) → (wake s).halted = false → busRead s s.pc = .ok op →
      step s = .next { wake s with pc := s.pc + 1, fault := some (.unimplementedOpcode op s.pc) })

/-- The prefix byte alone fetches one more byte and runs the instruction that byte selects; a fetch that faults changes
nothing but the fault (30_encoding.md section 3, decision D38 of the spec; log entry 7). -/
def Obligations.PrefixRunsSecondTable : Prop :=
  ∀ s : State,
    (∀ op2, busRead s s.pc = .ok op2 →
      ∃ t, exec .prefixCb s = .next t ∧ exec (cbByFields op2) { s with pc := s.pc + 1 } = .next t) ∧
    (∀ k, busRead s s.pc = .error k → exec .prefixCb s = .next { s with fault := some k })
end

