-- ==== Sys2Proof/Laws/Memory.lean ====
section
/-! SUPPORT. Storage: what a read gives after a write, and that a write keeps the canonical form and the set of keys. -/

namespace Sys2Proof.Machine

/-- A read of a list in which the key does not stand gives 0x00. -/
theorem Memory.read_of_not_mem (m : Memory) (key : Nat) (h : ∀ cell ∈ m, cell.1 ≠ key) : Memory.read m key = 0 := by
  induction m with
  | nil => rfl
  | cons x xs ih =>
    obtain ⟨k, v⟩ := x
    simp only [List.mem_cons, forall_eq_or_imp] at h
    simp only [Memory.read, if_neg h.1, ih h.2]

theorem Memory.read_insert_same (m : Memory) (key : Nat) (v : Byte) (h : ∀ cell ∈ m, cell.1 ≠ key) :
    Memory.read (Memory.insert key v m) key = v := by
  induction m with
  | nil => simp [Memory.insert, Memory.read]
  | cons x xs ih =>
    obtain ⟨k, w⟩ := x
    simp only [List.mem_cons, forall_eq_or_imp] at h
    simp only [Memory.insert]
    split
    · simp [Memory.read]
    · simp only [Memory.read, if_neg h.1, ih h.2]

theorem Memory.read_insert_other (m : Memory) (key key' : Nat) (v : Byte) (h : key' ≠ key) :
    Memory.read (Memory.insert key v m) key' = Memory.read m key' := by
  induction m with
  | nil => simp [Memory.insert, Memory.read, Ne.symm h]
  | cons x xs ih =>
    obtain ⟨k, w⟩ := x
    simp only [Memory.insert]
    split
    · simp [Memory.read, Ne.symm h]
    · simp only [Memory.read, ih]

theorem Memory.read_filter_other (m : Memory) (key key' : Nat) (h : key' ≠ key) :
    Memory.read (m.filter (fun cell => cell.1 != key)) key' = Memory.read m key' := by
  induction m with
  | nil => rfl
  | cons x xs ih =>
    obtain ⟨k, w⟩ := x
    by_cases hk : k = key
    · subst hk
      simp [Memory.read, Ne.symm h, ih]
    · simp [Memory.read, hk, ih]

theorem Memory.filter_not_mem (m : Memory) (key : Nat) :
    ∀ cell ∈ m.filter (fun cell => cell.1 != key), cell.1 ≠ key := by
  intro cell h
  simpa using (List.mem_filter.mp h).2

/-- A read of the byte just written gives it. -/
@[simp] theorem Memory.read_write_same (m : Memory) (key : Nat) (v : Byte) :
    Memory.read (Memory.write m key v) key = v := by
  simp only [Memory.write]
  split
  · rename_i hv
    rw [hv]
    exact Memory.read_of_not_mem _ _ (Memory.filter_not_mem m key)
  · exact Memory.read_insert_same _ _ _ (Memory.filter_not_mem m key)

/-- A write leaves every other byte as it was. -/
theorem Memory.read_write_other (m : Memory) (key key' : Nat) (v : Byte) (h : key' ≠ key) :
    Memory.read (Memory.write m key v) key' = Memory.read m key' := by
  simp only [Memory.write]
  split
  · exact Memory.read_filter_other m key key' h
  · rw [Memory.read_insert_other _ _ _ _ h, Memory.read_filter_other m key key' h]

/-- The cells after an insertion are the cells before it and the new one. -/
theorem Memory.mem_insert (m : Memory) (key : Nat) (v : Byte) (cell : Host.Cell) :
    cell ∈ Memory.insert key v m ↔ cell = (key, v) ∨ cell ∈ m := by
  induction m with
  | nil => simp [Memory.insert]
  | cons x xs ih =>
    obtain ⟨k, w⟩ := x
    simp only [Memory.insert]
    split
    · simp
    · simp only [List.mem_cons, ih]; tauto

/-- A write lists no key but its own and those listed before. -/
theorem Memory.key_of_mem_write (m : Memory) (key : Nat) (v : Byte) (cell : Host.Cell)
    (h : cell ∈ Memory.write m key v) : cell.1 = key ∨ cell ∈ m := by
  simp only [Memory.write] at h
  split at h
  · exact .inr (List.mem_of_mem_filter h)
  · rcases (Memory.mem_insert _ _ _ _).mp h with rfl | h
    · exact .inl rfl
    · exact .inr (List.mem_of_mem_filter h)

/-- A property of the keys that holds of the written one holds after the write. -/
theorem Memory.keys_write (P : Nat → Prop) (m : Memory) (key : Nat) (v : Byte) (hm : ∀ cell ∈ m, P cell.1) (hk : P key) :
    ∀ cell ∈ Memory.write m key v, P cell.1 := by
  intro cell h
  rcases Memory.key_of_mem_write m key v cell h with h | h
  · rw [h]; exact hk
  · exact hm cell h

theorem Memory.pairwise_insert (m : Memory) (key : Nat) (v : Byte) (hs : m.Pairwise (fun x y => x.1 < y.1))
    (hk : ∀ cell ∈ m, cell.1 ≠ key) : (Memory.insert key v m).Pairwise (fun x y => x.1 < y.1) := by
  induction m with
  | nil => simp [Memory.insert]
  | cons x xs ih =>
    obtain ⟨k, w⟩ := x
    simp only [List.pairwise_cons] at hs
    simp only [List.mem_cons, forall_eq_or_imp] at hk
    simp only [Memory.insert]
    split
    · rename_i h
      simp only [List.pairwise_cons, List.mem_cons, forall_eq_or_imp]
      exact ⟨⟨h, fun c hc => Nat.lt_trans h (hs.1 c hc)⟩, hs.1, hs.2⟩
    · rename_i h
      simp only [List.pairwise_cons]
      refine ⟨fun c hc => ?_, ih hs.2 hk.2⟩
      rcases (Memory.mem_insert _ _ _ _).mp hc with rfl | hc
      · show k < key
        have := hk.1
        omega
      · exact hs.1 c hc

/-- A write keeps the canonical form. -/
theorem Memory.wf_write (m : Memory) (key : Nat) (v : Byte) (h : Memory.wf m) : Memory.wf (Memory.write m key v) := by
  obtain ⟨hs, hz⟩ := h
  have hs' : (m.filter (fun cell => cell.1 != key)).Pairwise (fun x y => x.1 < y.1) := hs.filter _
  have hz' : ∀ cell ∈ m.filter (fun cell => cell.1 != key), cell.2 ≠ 0 := fun c hc => hz c (List.mem_of_mem_filter hc)
  simp only [Memory.write]
  split
  · exact ⟨hs', hz'⟩
  · rename_i hv
    refine ⟨Memory.pairwise_insert _ _ _ hs' (Memory.filter_not_mem m key), fun c hc => ?_⟩
    rcases (Memory.mem_insert _ _ _ _).mp hc with rfl | hc
    · exact hv
    · exact hz' c hc

/-- The empty storage is canonical. -/
theorem Memory.wf_nil : Memory.wf [] := ⟨List.Pairwise.nil, fun _ h => nomatch h⟩

/-- The keys of an image loaded from an index on. -/
theorem Memory.keys_ofBytes (i : Nat) (bytes : List Byte) :
    ∀ cell ∈ Memory.ofBytes i bytes, i ≤ cell.1 ∧ cell.1 < i + bytes.length := by
  induction bytes generalizing i with
  | nil => intro c h; simp [Memory.ofBytes] at h
  | cons v rest ih =>
    intro c h
    simp only [Memory.ofBytes] at h
    simp only [List.length_cons]
    split at h
    · have := ih (i + 1) c h; omega
    · rcases List.mem_cons.mp h with rfl | h
      · simp
      · have := ih (i + 1) c h; omega

/-- An image is loaded in canonical form. -/
theorem Memory.wf_ofBytes (i : Nat) (bytes : List Byte) : Memory.wf (Memory.ofBytes i bytes) := by
  induction bytes generalizing i with
  | nil => exact Memory.wf_nil
  | cons v rest ih =>
    simp only [Memory.ofBytes]
    split
    · exact ih (i + 1)
    · rename_i hv
      refine ⟨List.pairwise_cons.mpr ⟨fun c hc => ?_, (ih (i + 1)).1⟩, fun c hc => ?_⟩
      · have := (Memory.keys_ofBytes (i + 1) rest c hc).1
        show i < c.1
        omega
      · rcases List.mem_cons.mp hc with rfl | hc
        · exact hv
        · exact (ih (i + 1)).2 c hc

/-- An image reads back as its bytes. -/
theorem Memory.read_ofBytes (i n : Nat) (bytes : List Byte) :
    Memory.read (Memory.ofBytes i bytes) (i + n) = bytes.getD n 0 := by
  induction bytes generalizing i n with
  | nil => simp [Memory.ofBytes, Memory.read]
  | cons v rest ih =>
    cases n with
    | zero =>
      simp only [Memory.ofBytes]
      split
      · rename_i hv
        rw [Memory.read_of_not_mem]
        · simp [hv]
        · intro c hc
          have := (Memory.keys_ofBytes (i + 1) rest c hc).1
          omega
      · simp [Memory.read]
    | succ n =>
      have h := ih (i + 1) n
      rw [show i + 1 + n = i + (n + 1) by omega] at h
      simp only [Memory.ofBytes]
      split
      · simpa using h
      · simp only [Memory.read, if_neg (show i ≠ i + (n + 1) by omega)]
        simpa using h

end Sys2Proof.Machine
end

