-- ==== Sys2Proof/Laws/Res.lean ====
section
/-! SUPPORT. Running pseudocode: what `andThen` does, and how a property of the state it leaves is proved. -/

namespace Sys2Proof.Machine

variable {α β : Type}

@[simp] theorem Res.andThen_ok (v : α) (s : State) (k : α → State → Res β) : (Res.ok v s).andThen k = k v s := rfl

@[simp] theorem Res.andThen_raised (s : State) (k : α → State → Res β) : (Res.raised s : Res α).andThen k = .raised s :=
  rfl

@[simp] theorem raise_andThen (r : FaultRecord) (s : State) (k : α → State → Res β) :
    (raise r s : Res α).andThen k = raise r s := rfl

@[simp] theorem done_andThen (s : State) (k : Unit → State → Res β) : (done s).andThen k = k () s := rfl

@[simp] theorem Res.out_ok (v : α) (s : State) : (Res.ok v s).out = .next s := rfl

@[simp] theorem Res.out_raised (s : State) : (Res.raised s : Res α).out = .next s := rfl

@[simp] theorem done_out (s : State) : (done s).out = .next s := rfl

@[simp] theorem raise_out (r : FaultRecord) (s : State) : (raise r s : Res α).out = .next { s with fault := some r } := rfl

@[simp] theorem Res.state_ok (v : α) (s : State) : (Res.ok v s).state = s := rfl

@[simp] theorem Res.state_raised (s : State) : (Res.raised s : Res α).state = s := rfl

@[simp] theorem done_state (s : State) : (done s).state = s := rfl

@[simp] theorem raise_state (r : FaultRecord) (s : State) : (raise r s : Res α).state = { s with fault := some r } := rfl

/-- Every piece of pseudocode gives a next state: no meaning built from one stops. -/
theorem Res.out_eq (r : Res α) : r.out = .next r.state := rfl

/-- A property that holds where the first statement raises, and after the second where it does not, holds of the whole. -/
theorem Res.state_andThen {P : State → Prop} (r : Res α) (k : α → State → Res β)
    (h1 : ∀ t, r = .raised t → P t) (h2 : ∀ v t, r = .ok v t → P (k v t).state) : P (r.andThen k).state := by
  cases r with
  | ok v t => exact h2 v t rfl
  | raised t => exact h1 t rfl

end Sys2Proof.Machine
end

