-- ==== Sys2Proof/Laws/State.lean ====
section
/-! SUPPORT. One lemma per field per named update of the state, true by computation, so that no later proof unfolds an
update. -/

namespace Sys2Proof.Machine

@[simp] theorem setReg_f (s : State) (r : Reg8) (v : Byte) : (s.setReg r v).f = s.f := by cases r <;> rfl
@[simp] theorem setReg_pc (s : State) (r : Reg8) (v : Byte) : (s.setReg r v).pc = s.pc := by cases r <;> rfl
@[simp] theorem setReg_sp (s : State) (r : Reg8) (v : Byte) : (s.setReg r v).sp = s.sp := by cases r <;> rfl
@[simp] theorem setReg_halted (s : State) (r : Reg8) (v : Byte) : (s.setReg r v).halted = s.halted := by cases r <;> rfl
@[simp] theorem setReg_ime (s : State) (r : Reg8) (v : Byte) : (s.setReg r v).ime = s.ime := by cases r <;> rfl
@[simp] theorem setReg_imeDelay (s : State) (r : Reg8) (v : Byte) : (s.setReg r v).imeDelay = s.imeDelay := by cases r <;> rfl
@[simp] theorem setReg_fault (s : State) (r : Reg8) (v : Byte) : (s.setReg r v).fault = s.fault := by cases r <;> rfl
@[simp] theorem setReg_kind (s : State) (r : Reg8) (v : Byte) : (s.setReg r v).kind = s.kind := by cases r <;> rfl
@[simp] theorem setReg_rom (s : State) (r : Reg8) (v : Byte) : (s.setReg r v).rom = s.rom := by cases r <;> rfl
@[simp] theorem setReg_romLen (s : State) (r : Reg8) (v : Byte) : (s.setReg r v).romLen = s.romLen := by cases r <;> rfl
@[simp] theorem setReg_extRam (s : State) (r : Reg8) (v : Byte) : (s.setReg r v).extRam = s.extRam := by cases r <;> rfl
@[simp] theorem setReg_romBankOffset (s : State) (r : Reg8) (v : Byte) : (s.setReg r v).romBankOffset = s.romBankOffset := by cases r <;> rfl
@[simp] theorem setReg_ramBank (s : State) (r : Reg8) (v : Byte) : (s.setReg r v).ramBank = s.ramBank := by cases r <;> rfl
@[simp] theorem setReg_ramEnabled (s : State) (r : Reg8) (v : Byte) : (s.setReg r v).ramEnabled = s.ramEnabled := by cases r <;> rfl
@[simp] theorem setReg_mbc5Lo (s : State) (r : Reg8) (v : Byte) : (s.setReg r v).mbc5Lo = s.mbc5Lo := by cases r <;> rfl
@[simp] theorem setReg_mbc5Hi (s : State) (r : Reg8) (v : Byte) : (s.setReg r v).mbc5Hi = s.mbc5Hi := by cases r <;> rfl
@[simp] theorem setReg_mbc1BankLo (s : State) (r : Reg8) (v : Byte) : (s.setReg r v).mbc1BankLo = s.mbc1BankLo := by cases r <;> rfl
@[simp] theorem setReg_mbc1BankHi (s : State) (r : Reg8) (v : Byte) : (s.setReg r v).mbc1BankHi = s.mbc1BankHi := by cases r <;> rfl
@[simp] theorem setReg_mbc1Mode (s : State) (r : Reg8) (v : Byte) : (s.setReg r v).mbc1Mode = s.mbc1Mode := by cases r <;> rfl
@[simp] theorem setReg_mem (s : State) (r : Reg8) (v : Byte) : (s.setReg r v).mem = s.mem := by cases r <;> rfl
@[simp] theorem setReg_ie (s : State) (r : Reg8) (v : Byte) : (s.setReg r v).ie = s.ie := by cases r <;> rfl
@[simp] theorem setReg_cfg (s : State) (r : Reg8) (v : Byte) : (s.setReg r v).cfg = s.cfg := by cases r <;> rfl

@[simp] theorem writeF_a (s : State) (v : Byte) : (s.writeF v).a = s.a := rfl
@[simp] theorem writeF_b (s : State) (v : Byte) : (s.writeF v).b = s.b := rfl
@[simp] theorem writeF_c (s : State) (v : Byte) : (s.writeF v).c = s.c := rfl
@[simp] theorem writeF_d (s : State) (v : Byte) : (s.writeF v).d = s.d := rfl
@[simp] theorem writeF_e (s : State) (v : Byte) : (s.writeF v).e = s.e := rfl
@[simp] theorem writeF_h (s : State) (v : Byte) : (s.writeF v).h = s.h := rfl
@[simp] theorem writeF_l (s : State) (v : Byte) : (s.writeF v).l = s.l := rfl
@[simp] theorem writeF_pc (s : State) (v : Byte) : (s.writeF v).pc = s.pc := rfl
@[simp] theorem writeF_sp (s : State) (v : Byte) : (s.writeF v).sp = s.sp := rfl
@[simp] theorem writeF_halted (s : State) (v : Byte) : (s.writeF v).halted = s.halted := rfl
@[simp] theorem writeF_ime (s : State) (v : Byte) : (s.writeF v).ime = s.ime := rfl
@[simp] theorem writeF_imeDelay (s : State) (v : Byte) : (s.writeF v).imeDelay = s.imeDelay := rfl
@[simp] theorem writeF_fault (s : State) (v : Byte) : (s.writeF v).fault = s.fault := rfl
@[simp] theorem writeF_kind (s : State) (v : Byte) : (s.writeF v).kind = s.kind := rfl
@[simp] theorem writeF_rom (s : State) (v : Byte) : (s.writeF v).rom = s.rom := rfl
@[simp] theorem writeF_romLen (s : State) (v : Byte) : (s.writeF v).romLen = s.romLen := rfl
@[simp] theorem writeF_extRam (s : State) (v : Byte) : (s.writeF v).extRam = s.extRam := rfl
@[simp] theorem writeF_romBankOffset (s : State) (v : Byte) : (s.writeF v).romBankOffset = s.romBankOffset := rfl
@[simp] theorem writeF_ramBank (s : State) (v : Byte) : (s.writeF v).ramBank = s.ramBank := rfl
@[simp] theorem writeF_ramEnabled (s : State) (v : Byte) : (s.writeF v).ramEnabled = s.ramEnabled := rfl
@[simp] theorem writeF_mbc5Lo (s : State) (v : Byte) : (s.writeF v).mbc5Lo = s.mbc5Lo := rfl
@[simp] theorem writeF_mbc5Hi (s : State) (v : Byte) : (s.writeF v).mbc5Hi = s.mbc5Hi := rfl
@[simp] theorem writeF_mbc1BankLo (s : State) (v : Byte) : (s.writeF v).mbc1BankLo = s.mbc1BankLo := rfl
@[simp] theorem writeF_mbc1BankHi (s : State) (v : Byte) : (s.writeF v).mbc1BankHi = s.mbc1BankHi := rfl
@[simp] theorem writeF_mbc1Mode (s : State) (v : Byte) : (s.writeF v).mbc1Mode = s.mbc1Mode := rfl
@[simp] theorem writeF_mem (s : State) (v : Byte) : (s.writeF v).mem = s.mem := rfl
@[simp] theorem writeF_ie (s : State) (v : Byte) : (s.writeF v).ie = s.ie := rfl
@[simp] theorem writeF_cfg (s : State) (v : Byte) : (s.writeF v).cfg = s.cfg := rfl
@[simp] theorem setFlags_a (s : State) (fl : Flags) : (s.setFlags fl).a = s.a := rfl
@[simp] theorem setFlags_b (s : State) (fl : Flags) : (s.setFlags fl).b = s.b := rfl
@[simp] theorem setFlags_c (s : State) (fl : Flags) : (s.setFlags fl).c = s.c := rfl
@[simp] theorem setFlags_d (s : State) (fl : Flags) : (s.setFlags fl).d = s.d := rfl
@[simp] theorem setFlags_e (s : State) (fl : Flags) : (s.setFlags fl).e = s.e := rfl
@[simp] theorem setFlags_h (s : State) (fl : Flags) : (s.setFlags fl).h = s.h := rfl
@[simp] theorem setFlags_l (s : State) (fl : Flags) : (s.setFlags fl).l = s.l := rfl
@[simp] theorem setFlags_pc (s : State) (fl : Flags) : (s.setFlags fl).pc = s.pc := rfl
@[simp] theorem setFlags_sp (s : State) (fl : Flags) : (s.setFlags fl).sp = s.sp := rfl
@[simp] theorem setFlags_halted (s : State) (fl : Flags) : (s.setFlags fl).halted = s.halted := rfl
@[simp] theorem setFlags_ime (s : State) (fl : Flags) : (s.setFlags fl).ime = s.ime := rfl
@[simp] theorem setFlags_imeDelay (s : State) (fl : Flags) : (s.setFlags fl).imeDelay = s.imeDelay := rfl
@[simp] theorem setFlags_fault (s : State) (fl : Flags) : (s.setFlags fl).fault = s.fault := rfl
@[simp] theorem setFlags_kind (s : State) (fl : Flags) : (s.setFlags fl).kind = s.kind := rfl
@[simp] theorem setFlags_rom (s : State) (fl : Flags) : (s.setFlags fl).rom = s.rom := rfl
@[simp] theorem setFlags_romLen (s : State) (fl : Flags) : (s.setFlags fl).romLen = s.romLen := rfl
@[simp] theorem setFlags_extRam (s : State) (fl : Flags) : (s.setFlags fl).extRam = s.extRam := rfl
@[simp] theorem setFlags_romBankOffset (s : State) (fl : Flags) : (s.setFlags fl).romBankOffset = s.romBankOffset := rfl
@[simp] theorem setFlags_ramBank (s : State) (fl : Flags) : (s.setFlags fl).ramBank = s.ramBank := rfl
@[simp] theorem setFlags_ramEnabled (s : State) (fl : Flags) : (s.setFlags fl).ramEnabled = s.ramEnabled := rfl
@[simp] theorem setFlags_mbc5Lo (s : State) (fl : Flags) : (s.setFlags fl).mbc5Lo = s.mbc5Lo := rfl
@[simp] theorem setFlags_mbc5Hi (s : State) (fl : Flags) : (s.setFlags fl).mbc5Hi = s.mbc5Hi := rfl
@[simp] theorem setFlags_mbc1BankLo (s : State) (fl : Flags) : (s.setFlags fl).mbc1BankLo = s.mbc1BankLo := rfl
@[simp] theorem setFlags_mbc1BankHi (s : State) (fl : Flags) : (s.setFlags fl).mbc1BankHi = s.mbc1BankHi := rfl
@[simp] theorem setFlags_mbc1Mode (s : State) (fl : Flags) : (s.setFlags fl).mbc1Mode = s.mbc1Mode := rfl
@[simp] theorem setFlags_mem (s : State) (fl : Flags) : (s.setFlags fl).mem = s.mem := rfl
@[simp] theorem setFlags_ie (s : State) (fl : Flags) : (s.setFlags fl).ie = s.ie := rfl
@[simp] theorem setFlags_cfg (s : State) (fl : Flags) : (s.setFlags fl).cfg = s.cfg := rfl
@[simp] theorem setFlag_a (s : State) (w : Flag) (v : Bool) : (s.setFlag w v).a = s.a := rfl
@[simp] theorem setFlag_b (s : State) (w : Flag) (v : Bool) : (s.setFlag w v).b = s.b := rfl
@[simp] theorem setFlag_c (s : State) (w : Flag) (v : Bool) : (s.setFlag w v).c = s.c := rfl
@[simp] theorem setFlag_d (s : State) (w : Flag) (v : Bool) : (s.setFlag w v).d = s.d := rfl
@[simp] theorem setFlag_e (s : State) (w : Flag) (v : Bool) : (s.setFlag w v).e = s.e := rfl
@[simp] theorem setFlag_h (s : State) (w : Flag) (v : Bool) : (s.setFlag w v).h = s.h := rfl
@[simp] theorem setFlag_l (s : State) (w : Flag) (v : Bool) : (s.setFlag w v).l = s.l := rfl
@[simp] theorem setFlag_pc (s : State) (w : Flag) (v : Bool) : (s.setFlag w v).pc = s.pc := rfl
@[simp] theorem setFlag_sp (s : State) (w : Flag) (v : Bool) : (s.setFlag w v).sp = s.sp := rfl
@[simp] theorem setFlag_halted (s : State) (w : Flag) (v : Bool) : (s.setFlag w v).halted = s.halted := rfl
@[simp] theorem setFlag_ime (s : State) (w : Flag) (v : Bool) : (s.setFlag w v).ime = s.ime := rfl
@[simp] theorem setFlag_imeDelay (s : State) (w : Flag) (v : Bool) : (s.setFlag w v).imeDelay = s.imeDelay := rfl
@[simp] theorem setFlag_fault (s : State) (w : Flag) (v : Bool) : (s.setFlag w v).fault = s.fault := rfl
@[simp] theorem setFlag_kind (s : State) (w : Flag) (v : Bool) : (s.setFlag w v).kind = s.kind := rfl
@[simp] theorem setFlag_rom (s : State) (w : Flag) (v : Bool) : (s.setFlag w v).rom = s.rom := rfl
@[simp] theorem setFlag_romLen (s : State) (w : Flag) (v : Bool) : (s.setFlag w v).romLen = s.romLen := rfl
@[simp] theorem setFlag_extRam (s : State) (w : Flag) (v : Bool) : (s.setFlag w v).extRam = s.extRam := rfl
@[simp] theorem setFlag_romBankOffset (s : State) (w : Flag) (v : Bool) : (s.setFlag w v).romBankOffset = s.romBankOffset := rfl
@[simp] theorem setFlag_ramBank (s : State) (w : Flag) (v : Bool) : (s.setFlag w v).ramBank = s.ramBank := rfl
@[simp] theorem setFlag_ramEnabled (s : State) (w : Flag) (v : Bool) : (s.setFlag w v).ramEnabled = s.ramEnabled := rfl
@[simp] theorem setFlag_mbc5Lo (s : State) (w : Flag) (v : Bool) : (s.setFlag w v).mbc5Lo = s.mbc5Lo := rfl
@[simp] theorem setFlag_mbc5Hi (s : State) (w : Flag) (v : Bool) : (s.setFlag w v).mbc5Hi = s.mbc5Hi := rfl
@[simp] theorem setFlag_mbc1BankLo (s : State) (w : Flag) (v : Bool) : (s.setFlag w v).mbc1BankLo = s.mbc1BankLo := rfl
@[simp] theorem setFlag_mbc1BankHi (s : State) (w : Flag) (v : Bool) : (s.setFlag w v).mbc1BankHi = s.mbc1BankHi := rfl
@[simp] theorem setFlag_mbc1Mode (s : State) (w : Flag) (v : Bool) : (s.setFlag w v).mbc1Mode = s.mbc1Mode := rfl
@[simp] theorem setFlag_mem (s : State) (w : Flag) (v : Bool) : (s.setFlag w v).mem = s.mem := rfl
@[simp] theorem setFlag_ie (s : State) (w : Flag) (v : Bool) : (s.setFlag w v).ie = s.ie := rfl
@[simp] theorem setFlag_cfg (s : State) (w : Flag) (v : Bool) : (s.setFlag w v).cfg = s.cfg := rfl

@[simp] theorem setBC_a (s : State) (v : Word) : (s.setBC v).a = s.a := rfl
@[simp] theorem setBC_b (s : State) (v : Word) : (s.setBC v).b = hiByte v := rfl
@[simp] theorem setBC_c (s : State) (v : Word) : (s.setBC v).c = loByte v := rfl
@[simp] theorem setBC_d (s : State) (v : Word) : (s.setBC v).d = s.d := rfl
@[simp] theorem setBC_e (s : State) (v : Word) : (s.setBC v).e = s.e := rfl
@[simp] theorem setBC_h (s : State) (v : Word) : (s.setBC v).h = s.h := rfl
@[simp] theorem setBC_l (s : State) (v : Word) : (s.setBC v).l = s.l := rfl
@[simp] theorem setBC_f (s : State) (v : Word) : (s.setBC v).f = s.f := rfl
@[simp] theorem setBC_pc (s : State) (v : Word) : (s.setBC v).pc = s.pc := rfl
@[simp] theorem setBC_sp (s : State) (v : Word) : (s.setBC v).sp = s.sp := rfl
@[simp] theorem setBC_halted (s : State) (v : Word) : (s.setBC v).halted = s.halted := rfl
@[simp] theorem setBC_ime (s : State) (v : Word) : (s.setBC v).ime = s.ime := rfl
@[simp] theorem setBC_imeDelay (s : State) (v : Word) : (s.setBC v).imeDelay = s.imeDelay := rfl
@[simp] theorem setBC_fault (s : State) (v : Word) : (s.setBC v).fault = s.fault := rfl
@[simp] theorem setBC_kind (s : State) (v : Word) : (s.setBC v).kind = s.kind := rfl
@[simp] theorem setBC_rom (s : State) (v : Word) : (s.setBC v).rom = s.rom := rfl
@[simp] theorem setBC_romLen (s : State) (v : Word) : (s.setBC v).romLen = s.romLen := rfl
@[simp] theorem setBC_extRam (s : State) (v : Word) : (s.setBC v).extRam = s.extRam := rfl
@[simp] theorem setBC_romBankOffset (s : State) (v : Word) : (s.setBC v).romBankOffset = s.romBankOffset := rfl
@[simp] theorem setBC_ramBank (s : State) (v : Word) : (s.setBC v).ramBank = s.ramBank := rfl
@[simp] theorem setBC_ramEnabled (s : State) (v : Word) : (s.setBC v).ramEnabled = s.ramEnabled := rfl
@[simp] theorem setBC_mbc5Lo (s : State) (v : Word) : (s.setBC v).mbc5Lo = s.mbc5Lo := rfl
@[simp] theorem setBC_mbc5Hi (s : State) (v : Word) : (s.setBC v).mbc5Hi = s.mbc5Hi := rfl
@[simp] theorem setBC_mbc1BankLo (s : State) (v : Word) : (s.setBC v).mbc1BankLo = s.mbc1BankLo := rfl
@[simp] theorem setBC_mbc1BankHi (s : State) (v : Word) : (s.setBC v).mbc1BankHi = s.mbc1BankHi := rfl
@[simp] theorem setBC_mbc1Mode (s : State) (v : Word) : (s.setBC v).mbc1Mode = s.mbc1Mode := rfl
@[simp] theorem setBC_mem (s : State) (v : Word) : (s.setBC v).mem = s.mem := rfl
@[simp] theorem setBC_ie (s : State) (v : Word) : (s.setBC v).ie = s.ie := rfl
@[simp] theorem setBC_cfg (s : State) (v : Word) : (s.setBC v).cfg = s.cfg := rfl
@[simp] theorem setDE_a (s : State) (v : Word) : (s.setDE v).a = s.a := rfl
@[simp] theorem setDE_b (s : State) (v : Word) : (s.setDE v).b = s.b := rfl
@[simp] theorem setDE_c (s : State) (v : Word) : (s.setDE v).c = s.c := rfl
@[simp] theorem setDE_d (s : State) (v : Word) : (s.setDE v).d = hiByte v := rfl
@[simp] theorem setDE_e (s : State) (v : Word) : (s.setDE v).e = loByte v := rfl
@[simp] theorem setDE_h (s : State) (v : Word) : (s.setDE v).h = s.h := rfl
@[simp] theorem setDE_l (s : State) (v : Word) : (s.setDE v).l = s.l := rfl
@[simp] theorem setDE_f (s : State) (v : Word) : (s.setDE v).f = s.f := rfl
@[simp] theorem setDE_pc (s : State) (v : Word) : (s.setDE v).pc = s.pc := rfl
@[simp] theorem setDE_sp (s : State) (v : Word) : (s.setDE v).sp = s.sp := rfl
@[simp] theorem setDE_halted (s : State) (v : Word) : (s.setDE v).halted = s.halted := rfl
@[simp] theorem setDE_ime (s : State) (v : Word) : (s.setDE v).ime = s.ime := rfl
@[simp] theorem setDE_imeDelay (s : State) (v : Word) : (s.setDE v).imeDelay = s.imeDelay := rfl
@[simp] theorem setDE_fault (s : State) (v : Word) : (s.setDE v).fault = s.fault := rfl
@[simp] theorem setDE_kind (s : State) (v : Word) : (s.setDE v).kind = s.kind := rfl
@[simp] theorem setDE_rom (s : State) (v : Word) : (s.setDE v).rom = s.rom := rfl
@[simp] theorem setDE_romLen (s : State) (v : Word) : (s.setDE v).romLen = s.romLen := rfl
@[simp] theorem setDE_extRam (s : State) (v : Word) : (s.setDE v).extRam = s.extRam := rfl
@[simp] theorem setDE_romBankOffset (s : State) (v : Word) : (s.setDE v).romBankOffset = s.romBankOffset := rfl
@[simp] theorem setDE_ramBank (s : State) (v : Word) : (s.setDE v).ramBank = s.ramBank := rfl
@[simp] theorem setDE_ramEnabled (s : State) (v : Word) : (s.setDE v).ramEnabled = s.ramEnabled := rfl
@[simp] theorem setDE_mbc5Lo (s : State) (v : Word) : (s.setDE v).mbc5Lo = s.mbc5Lo := rfl
@[simp] theorem setDE_mbc5Hi (s : State) (v : Word) : (s.setDE v).mbc5Hi = s.mbc5Hi := rfl
@[simp] theorem setDE_mbc1BankLo (s : State) (v : Word) : (s.setDE v).mbc1BankLo = s.mbc1BankLo := rfl
@[simp] theorem setDE_mbc1BankHi (s : State) (v : Word) : (s.setDE v).mbc1BankHi = s.mbc1BankHi := rfl
@[simp] theorem setDE_mbc1Mode (s : State) (v : Word) : (s.setDE v).mbc1Mode = s.mbc1Mode := rfl
@[simp] theorem setDE_mem (s : State) (v : Word) : (s.setDE v).mem = s.mem := rfl
@[simp] theorem setDE_ie (s : State) (v : Word) : (s.setDE v).ie = s.ie := rfl
@[simp] theorem setDE_cfg (s : State) (v : Word) : (s.setDE v).cfg = s.cfg := rfl
@[simp] theorem setHL_a (s : State) (v : Word) : (s.setHL v).a = s.a := rfl
@[simp] theorem setHL_b (s : State) (v : Word) : (s.setHL v).b = s.b := rfl
@[simp] theorem setHL_c (s : State) (v : Word) : (s.setHL v).c = s.c := rfl
@[simp] theorem setHL_d (s : State) (v : Word) : (s.setHL v).d = s.d := rfl
@[simp] theorem setHL_e (s : State) (v : Word) : (s.setHL v).e = s.e := rfl
@[simp] theorem setHL_h (s : State) (v : Word) : (s.setHL v).h = hiByte v := rfl
@[simp] theorem setHL_l (s : State) (v : Word) : (s.setHL v).l = loByte v := rfl
@[simp] theorem setHL_f (s : State) (v : Word) : (s.setHL v).f = s.f := rfl
@[simp] theorem setHL_pc (s : State) (v : Word) : (s.setHL v).pc = s.pc := rfl
@[simp] theorem setHL_sp (s : State) (v : Word) : (s.setHL v).sp = s.sp := rfl
@[simp] theorem setHL_halted (s : State) (v : Word) : (s.setHL v).halted = s.halted := rfl
@[simp] theorem setHL_ime (s : State) (v : Word) : (s.setHL v).ime = s.ime := rfl
@[simp] theorem setHL_imeDelay (s : State) (v : Word) : (s.setHL v).imeDelay = s.imeDelay := rfl
@[simp] theorem setHL_fault (s : State) (v : Word) : (s.setHL v).fault = s.fault := rfl
@[simp] theorem setHL_kind (s : State) (v : Word) : (s.setHL v).kind = s.kind := rfl
@[simp] theorem setHL_rom (s : State) (v : Word) : (s.setHL v).rom = s.rom := rfl
@[simp] theorem setHL_romLen (s : State) (v : Word) : (s.setHL v).romLen = s.romLen := rfl
@[simp] theorem setHL_extRam (s : State) (v : Word) : (s.setHL v).extRam = s.extRam := rfl
@[simp] theorem setHL_romBankOffset (s : State) (v : Word) : (s.setHL v).romBankOffset = s.romBankOffset := rfl
@[simp] theorem setHL_ramBank (s : State) (v : Word) : (s.setHL v).ramBank = s.ramBank := rfl
@[simp] theorem setHL_ramEnabled (s : State) (v : Word) : (s.setHL v).ramEnabled = s.ramEnabled := rfl
@[simp] theorem setHL_mbc5Lo (s : State) (v : Word) : (s.setHL v).mbc5Lo = s.mbc5Lo := rfl
@[simp] theorem setHL_mbc5Hi (s : State) (v : Word) : (s.setHL v).mbc5Hi = s.mbc5Hi := rfl
@[simp] theorem setHL_mbc1BankLo (s : State) (v : Word) : (s.setHL v).mbc1BankLo = s.mbc1BankLo := rfl
@[simp] theorem setHL_mbc1BankHi (s : State) (v : Word) : (s.setHL v).mbc1BankHi = s.mbc1BankHi := rfl
@[simp] theorem setHL_mbc1Mode (s : State) (v : Word) : (s.setHL v).mbc1Mode = s.mbc1Mode := rfl
@[simp] theorem setHL_mem (s : State) (v : Word) : (s.setHL v).mem = s.mem := rfl
@[simp] theorem setHL_ie (s : State) (v : Word) : (s.setHL v).ie = s.ie := rfl
@[simp] theorem setHL_cfg (s : State) (v : Word) : (s.setHL v).cfg = s.cfg := rfl
@[simp] theorem setAF_a (s : State) (v : Word) : (s.setAF v).a = hiByte v := rfl
@[simp] theorem setAF_b (s : State) (v : Word) : (s.setAF v).b = s.b := rfl
@[simp] theorem setAF_c (s : State) (v : Word) : (s.setAF v).c = s.c := rfl
@[simp] theorem setAF_d (s : State) (v : Word) : (s.setAF v).d = s.d := rfl
@[simp] theorem setAF_e (s : State) (v : Word) : (s.setAF v).e = s.e := rfl
@[simp] theorem setAF_h (s : State) (v : Word) : (s.setAF v).h = s.h := rfl
@[simp] theorem setAF_l (s : State) (v : Word) : (s.setAF v).l = s.l := rfl
@[simp] theorem setAF_f (s : State) (v : Word) : (s.setAF v).f = loByte v &&& 0xF0 := rfl
@[simp] theorem setAF_pc (s : State) (v : Word) : (s.setAF v).pc = s.pc := rfl
@[simp] theorem setAF_sp (s : State) (v : Word) : (s.setAF v).sp = s.sp := rfl
@[simp] theorem setAF_halted (s : State) (v : Word) : (s.setAF v).halted = s.halted := rfl
@[simp] theorem setAF_ime (s : State) (v : Word) : (s.setAF v).ime = s.ime := rfl
@[simp] theorem setAF_imeDelay (s : State) (v : Word) : (s.setAF v).imeDelay = s.imeDelay := rfl
@[simp] theorem setAF_fault (s : State) (v : Word) : (s.setAF v).fault = s.fault := rfl
@[simp] theorem setAF_kind (s : State) (v : Word) : (s.setAF v).kind = s.kind := rfl
@[simp] theorem setAF_rom (s : State) (v : Word) : (s.setAF v).rom = s.rom := rfl
@[simp] theorem setAF_romLen (s : State) (v : Word) : (s.setAF v).romLen = s.romLen := rfl
@[simp] theorem setAF_extRam (s : State) (v : Word) : (s.setAF v).extRam = s.extRam := rfl
@[simp] theorem setAF_romBankOffset (s : State) (v : Word) : (s.setAF v).romBankOffset = s.romBankOffset := rfl
@[simp] theorem setAF_ramBank (s : State) (v : Word) : (s.setAF v).ramBank = s.ramBank := rfl
@[simp] theorem setAF_ramEnabled (s : State) (v : Word) : (s.setAF v).ramEnabled = s.ramEnabled := rfl
@[simp] theorem setAF_mbc5Lo (s : State) (v : Word) : (s.setAF v).mbc5Lo = s.mbc5Lo := rfl
@[simp] theorem setAF_mbc5Hi (s : State) (v : Word) : (s.setAF v).mbc5Hi = s.mbc5Hi := rfl
@[simp] theorem setAF_mbc1BankLo (s : State) (v : Word) : (s.setAF v).mbc1BankLo = s.mbc1BankLo := rfl
@[simp] theorem setAF_mbc1BankHi (s : State) (v : Word) : (s.setAF v).mbc1BankHi = s.mbc1BankHi := rfl
@[simp] theorem setAF_mbc1Mode (s : State) (v : Word) : (s.setAF v).mbc1Mode = s.mbc1Mode := rfl
@[simp] theorem setAF_mem (s : State) (v : Word) : (s.setAF v).mem = s.mem := rfl
@[simp] theorem setAF_ie (s : State) (v : Word) : (s.setAF v).ie = s.ie := rfl
@[simp] theorem setAF_cfg (s : State) (v : Word) : (s.setAF v).cfg = s.cfg := rfl

@[simp] theorem setPair_a (s : State) (p : Pair) (v : Word) : (s.setPair p v).a = s.a := by cases p <;> rfl
@[simp] theorem setPair_f (s : State) (p : Pair) (v : Word) : (s.setPair p v).f = s.f := by cases p <;> rfl
@[simp] theorem setPair_pc (s : State) (p : Pair) (v : Word) : (s.setPair p v).pc = s.pc := by cases p <;> rfl
@[simp] theorem setPair_halted (s : State) (p : Pair) (v : Word) : (s.setPair p v).halted = s.halted := by cases p <;> rfl
@[simp] theorem setPair_ime (s : State) (p : Pair) (v : Word) : (s.setPair p v).ime = s.ime := by cases p <;> rfl
@[simp] theorem setPair_imeDelay (s : State) (p : Pair) (v : Word) : (s.setPair p v).imeDelay = s.imeDelay := by cases p <;> rfl
@[simp] theorem setPair_fault (s : State) (p : Pair) (v : Word) : (s.setPair p v).fault = s.fault := by cases p <;> rfl
@[simp] theorem setPair_kind (s : State) (p : Pair) (v : Word) : (s.setPair p v).kind = s.kind := by cases p <;> rfl
@[simp] theorem setPair_rom (s : State) (p : Pair) (v : Word) : (s.setPair p v).rom = s.rom := by cases p <;> rfl
@[simp] theorem setPair_romLen (s : State) (p : Pair) (v : Word) : (s.setPair p v).romLen = s.romLen := by cases p <;> rfl
@[simp] theorem setPair_extRam (s : State) (p : Pair) (v : Word) : (s.setPair p v).extRam = s.extRam := by cases p <;> rfl
@[simp] theorem setPair_romBankOffset (s : State) (p : Pair) (v : Word) : (s.setPair p v).romBankOffset = s.romBankOffset := by cases p <;> rfl
@[simp] theorem setPair_ramBank (s : State) (p : Pair) (v : Word) : (s.setPair p v).ramBank = s.ramBank := by cases p <;> rfl
@[simp] theorem setPair_ramEnabled (s : State) (p : Pair) (v : Word) : (s.setPair p v).ramEnabled = s.ramEnabled := by cases p <;> rfl
@[simp] theorem setPair_mbc5Lo (s : State) (p : Pair) (v : Word) : (s.setPair p v).mbc5Lo = s.mbc5Lo := by cases p <;> rfl
@[simp] theorem setPair_mbc5Hi (s : State) (p : Pair) (v : Word) : (s.setPair p v).mbc5Hi = s.mbc5Hi := by cases p <;> rfl
@[simp] theorem setPair_mbc1BankLo (s : State) (p : Pair) (v : Word) : (s.setPair p v).mbc1BankLo = s.mbc1BankLo := by cases p <;> rfl
@[simp] theorem setPair_mbc1BankHi (s : State) (p : Pair) (v : Word) : (s.setPair p v).mbc1BankHi = s.mbc1BankHi := by cases p <;> rfl
@[simp] theorem setPair_mbc1Mode (s : State) (p : Pair) (v : Word) : (s.setPair p v).mbc1Mode = s.mbc1Mode := by cases p <;> rfl
@[simp] theorem setPair_mem (s : State) (p : Pair) (v : Word) : (s.setPair p v).mem = s.mem := by cases p <;> rfl
@[simp] theorem setPair_ie (s : State) (p : Pair) (v : Word) : (s.setPair p v).ie = s.ie := by cases p <;> rfl
@[simp] theorem setPair_cfg (s : State) (p : Pair) (v : Word) : (s.setPair p v).cfg = s.cfg := by cases p <;> rfl
@[simp] theorem setStackPair_pc (s : State) (p : StackPair) (v : Word) : (s.setStackPair p v).pc = s.pc := by cases p <;> rfl
@[simp] theorem setStackPair_sp (s : State) (p : StackPair) (v : Word) : (s.setStackPair p v).sp = s.sp := by cases p <;> rfl
@[simp] theorem setStackPair_halted (s : State) (p : StackPair) (v : Word) : (s.setStackPair p v).halted = s.halted := by cases p <;> rfl
@[simp] theorem setStackPair_ime (s : State) (p : StackPair) (v : Word) : (s.setStackPair p v).ime = s.ime := by cases p <;> rfl
@[simp] theorem setStackPair_imeDelay (s : State) (p : StackPair) (v : Word) : (s.setStackPair p v).imeDelay = s.imeDelay := by cases p <;> rfl
@[simp] theorem setStackPair_fault (s : State) (p : StackPair) (v : Word) : (s.setStackPair p v).fault = s.fault := by cases p <;> rfl
@[simp] theorem setStackPair_kind (s : State) (p : StackPair) (v : Word) : (s.setStackPair p v).kind = s.kind := by cases p <;> rfl
@[simp] theorem setStackPair_rom (s : State) (p : StackPair) (v : Word) : (s.setStackPair p v).rom = s.rom := by cases p <;> rfl
@[simp] theorem setStackPair_romLen (s : State) (p : StackPair) (v : Word) : (s.setStackPair p v).romLen = s.romLen := by cases p <;> rfl
@[simp] theorem setStackPair_extRam (s : State) (p : StackPair) (v : Word) : (s.setStackPair p v).extRam = s.extRam := by cases p <;> rfl
@[simp] theorem setStackPair_romBankOffset (s : State) (p : StackPair) (v : Word) : (s.setStackPair p v).romBankOffset = s.romBankOffset := by cases p <;> rfl
@[simp] theorem setStackPair_ramBank (s : State) (p : StackPair) (v : Word) : (s.setStackPair p v).ramBank = s.ramBank := by cases p <;> rfl
@[simp] theorem setStackPair_ramEnabled (s : State) (p : StackPair) (v : Word) : (s.setStackPair p v).ramEnabled = s.ramEnabled := by cases p <;> rfl
@[simp] theorem setStackPair_mbc5Lo (s : State) (p : StackPair) (v : Word) : (s.setStackPair p v).mbc5Lo = s.mbc5Lo := by cases p <;> rfl
@[simp] theorem setStackPair_mbc5Hi (s : State) (p : StackPair) (v : Word) : (s.setStackPair p v).mbc5Hi = s.mbc5Hi := by cases p <;> rfl
@[simp] theorem setStackPair_mbc1BankLo (s : State) (p : StackPair) (v : Word) : (s.setStackPair p v).mbc1BankLo = s.mbc1BankLo := by cases p <;> rfl
@[simp] theorem setStackPair_mbc1BankHi (s : State) (p : StackPair) (v : Word) : (s.setStackPair p v).mbc1BankHi = s.mbc1BankHi := by cases p <;> rfl
@[simp] theorem setStackPair_mbc1Mode (s : State) (p : StackPair) (v : Word) : (s.setStackPair p v).mbc1Mode = s.mbc1Mode := by cases p <;> rfl
@[simp] theorem setStackPair_mem (s : State) (p : StackPair) (v : Word) : (s.setStackPair p v).mem = s.mem := by cases p <;> rfl
@[simp] theorem setStackPair_ie (s : State) (p : StackPair) (v : Word) : (s.setStackPair p v).ie = s.ie := by cases p <;> rfl
@[simp] theorem setStackPair_cfg (s : State) (p : StackPair) (v : Word) : (s.setStackPair p v).cfg = s.cfg := by cases p <;> rfl

/-! Reading a register after a write of one. -/

@[simp] theorem reg_setReg_same (s : State) (r : Reg8) (v : Byte) : (s.setReg r v).reg r = v := by cases r <;> rfl

theorem reg_setReg_other (s : State) (r q : Reg8) (v : Byte) (h : q ≠ r) : (s.setReg r v).reg q = s.reg q := by
  cases r <;> cases q <;> first | rfl | exact absurd rfl h

@[simp] theorem setReg_setReg (s : State) (r : Reg8) (v w : Byte) : (s.setReg r v).setReg r w = s.setReg r w := by
  cases r <;> rfl

@[simp] theorem setReg_reg (s : State) (r : Reg8) : s.setReg r (s.reg r) = s := by cases r <;> rfl

@[simp] theorem reg_setFlags (s : State) (fl : Flags) (r : Reg8) : (s.setFlags fl).reg r = s.reg r := by
  cases r <;> rfl

@[simp] theorem setReg_flags (s : State) (r : Reg8) (v : Byte) : (s.setReg r v).flags = s.flags := by
  cases r <;> rfl

/-- What the bits of a packed flag byte are, and that masking it changes nothing. -/
theorem pack_bits : ∀ z n h c : Bool,
    (Flags.pack ⟨z, n, h, c⟩ &&& 0xF0).getLsbD 7 = z ∧ (Flags.pack ⟨z, n, h, c⟩ &&& 0xF0).getLsbD 6 = n ∧
      (Flags.pack ⟨z, n, h, c⟩ &&& 0xF0).getLsbD 5 = h ∧ (Flags.pack ⟨z, n, h, c⟩ &&& 0xF0).getLsbD 4 = c := by
  decide

/-- The flags read back as they were written. -/
@[simp] theorem setFlags_flags (s : State) (fl : Flags) : (s.setFlags fl).flags = fl := by
  obtain ⟨z, n, h, c⟩ := fl
  obtain ⟨hz, hn, hh, hc⟩ := pack_bits z n h c
  simp only [State.flags, State.setFlags, State.writeF, hz, hn, hh, hc]

/-- Any write of F leaves its low nibble at 0. -/
theorem and_F0_low (v : Byte) : v &&& 0xF0 &&& 0x0F = 0 := by
  rw [BitVec.and_assoc]; exact BitVec.and_zero

/-- A second masking of F changes nothing. -/
theorem and_F0_F0 (v : Byte) : v &&& 0xF0 &&& 0xF0 = v &&& 0xF0 := by
  rw [BitVec.and_assoc]; rfl

/-- A write of the flags leaves the low nibble of F at 0. -/
theorem setFlags_low (s : State) (fl : Flags) : (s.setFlags fl).f &&& 0x0F = 0 := and_F0_low _

/-- The last of two writes of the flags stands. -/
@[simp] theorem setFlags_setFlags (s : State) (fl fl' : Flags) : (s.setFlags fl).setFlags fl' = s.setFlags fl' := rfl

@[simp] theorem getFlag_setFlag_same (s : State) (w : Flag) (v : Bool) : (s.setFlag w v).getFlag w = v := by
  simp only [State.setFlag, State.getFlag, setFlags_flags]; cases w <;> rfl

theorem getFlag_setFlag_other (s : State) (w q : Flag) (v : Bool) (h : q ≠ w) :
    (s.setFlag w v).getFlag q = s.getFlag q := by
  simp only [State.setFlag, State.getFlag, setFlags_flags]
  cases w <;> cases q <;> first | rfl | exact absurd rfl h

end Sys2Proof.Machine
end

