-- ==== Sys2Proof/Laws/Bus.lean ====
section
/-! SUPPORT. The bus: the range of an address, what a read and a write do in each range, and what no write changes. -/

namespace Sys2Proof.Machine

/-! ## The range of an address -/

/-- The bounds of a range (20_memory.md R74). -/
def Region.holds : Region → Nat → Prop
  | .rom0, n => n ≤ 0x3FFF
  | .romBank, n => 0x4000 ≤ n ∧ n ≤ 0x7FFF
  | .vram, n => 0x8000 ≤ n ∧ n ≤ 0x9FFF
  | .extRam, n => 0xA000 ≤ n ∧ n ≤ 0xBFFF
  | .wram, n => 0xC000 ≤ n ∧ n ≤ 0xDFFF
  | .echo, n => 0xE000 ≤ n ∧ n ≤ 0xFDFF
  | .oam, n => 0xFE00 ≤ n ∧ n ≤ 0xFE9F
  | .unusable, n => 0xFEA0 ≤ n ∧ n ≤ 0xFEFF
  | .io, n => 0xFF00 ≤ n ∧ n ≤ 0xFF7F
  | .hram, n => 0xFF80 ≤ n ∧ n ≤ 0xFFFE
  | .ie, n => n = 0xFFFF

/-- Every address lies inside the range it is routed to. -/
theorem region_holds (a : Word) : (region a).holds a.toNat := by
  have h := a.isLt
  simp only [region]
  split_ifs <;> simp only [Region.holds] <;> omega

/-- An address inside a range is routed to it. -/
theorem region_of_holds {a : Word} {r : Region} (h : r.holds a.toNat) : region a = r := by
  have h' := region_holds a
  cases hr : region a <;> rw [hr] at h' <;> cases r <;> simp only [Region.holds] at h h' <;> first | rfl | omega

/-! ## Reads -/

/-- A read of the bus that gives a value is that value, and changes no state (20_memory.md R84). -/
theorem memRead_ok {s : State} {a : Word} {v : Byte} (h : busRead s a = .ok v) : memRead a s = .ok v s := by
  simp [memRead, h]

/-- A read of the bus that faults records the fault and changes nothing else. -/
theorem memRead_error {s : State} {a : Word} {k : FaultRecord} (h : busRead s a = .error k) :
    memRead a s = .raised { s with fault := some k } := by
  simp [memRead, h, raise]

/-- A read does one of two things. -/
theorem memRead_cases (a : Word) (s : State) :
    (∃ v, busRead s a = .ok v ∧ memRead a s = .ok v s) ∨
      ∃ k, busRead s a = .error k ∧ memRead a s = .raised { s with fault := some k } := by
  cases h : busRead s a with
  | ok v => exact .inl ⟨v, rfl, memRead_ok h⟩
  | error k => exact .inr ⟨k, rfl, memRead_error h⟩

/-- A read looks at these fields only. -/
theorem busRead_congr {s t : State} (hm : t.mem = s.mem) (hi : t.ie = s.ie) (hr : t.rom = s.rom)
    (ho : t.romBankOffset = s.romBankOffset) (he : t.extRam = s.extRam) (hb : t.ramBank = s.ramBank)
    (hn : t.ramEnabled = s.ramEnabled) (hc : t.cfg = s.cfg) (a : Word) : busRead t a = busRead s a := by
  have h1 : ramIndex t a = ramIndex s a := by unfold ramIndex; rw [hb]
  have h2 : cartRamRead t a = cartRamRead s a := by unfold cartRamRead; rw [h1, hn, hc, he]
  unfold busRead
  rw [h2, hm, hi, hr, ho]

/-- A fetch of a byte. -/
theorem fetch8_ok {s : State} {v : Byte} (h : busRead s s.pc = .ok v) :
    fetch8 s = .ok v { s with pc := s.pc + 1 } := by
  simp [fetch8, memRead_ok h]

theorem fetch8_error {s : State} {k : FaultRecord} (h : busRead s s.pc = .error k) :
    fetch8 s = .raised { s with fault := some k } := by
  simp [fetch8, memRead_error h]

/-- The byte popped low and the byte popped high. -/
theorem pop16_ok {s : State} {lo hi : Byte} (hl : busRead s s.sp = .ok lo) (hh : busRead s (s.sp + 1) = .ok hi) :
    pop16 s = .ok (wordOf hi lo) { s with sp := s.sp + 2 } := by
  simp only [pop16, memRead16, memRead_ok hl, Res.andThen_ok, memRead_ok hh]

/-- A pop whose first or second read faults moves nothing. -/
theorem pop16_error {s : State} {k : FaultRecord}
    (h : busRead s s.sp = .error k ∨ ((∃ lo, busRead s s.sp = .ok lo) ∧ busRead s (s.sp + 1) = .error k)) :
    pop16 s = .raised { s with fault := some k } := by
  rcases h with h | ⟨⟨lo, hl⟩, hh⟩
  · simp [pop16, memRead16, memRead_error h]
  · simp only [pop16, memRead16, memRead_ok hl, Res.andThen_ok, memRead_error hh, Res.andThen_raised]

/-! ## Writes to on-board storage -/

/-- A write to on-board storage below IE goes to the key of the address, the echo to that of the work RAM. -/
theorem memWrite_mem {s : State} {a : Word} {v : Byte} (h : stored a) (hie : a.toNat ≠ 0xFFFF) :
    memWrite a v s = .ok () { s with mem := Memory.write s.mem (home a) v } := by
  have hb := region_holds a
  cases hr : region a <;> rw [hr] at hb <;> simp only [Region.holds] at hb <;>
    simp only [memWrite, hr, home] <;> first | (exfalso; omega) | (rw [if_pos hb]; rfl) | (rw [if_neg (by omega)]; rfl)

/-- A write to 0xFFFF is a write of IE. -/
theorem memWrite_ie {s : State} {a : Word} {v : Byte} (hie : a.toNat = 0xFFFF) :
    memWrite a v s = .ok () { s with ie := v } := by
  rw [memWrite, region_of_holds (r := .ie) hie]; rfl

/-- A read of on-board storage below IE. -/
theorem busRead_mem {s : State} {a : Word} (h : stored a) (hie : a.toNat ≠ 0xFFFF) :
    busRead s a = .ok (Memory.read s.mem (home a)) := by
  have hb := region_holds a
  cases hr : region a <;> rw [hr] at hb <;> simp only [Region.holds] at hb <;>
    simp only [busRead, hr, home] <;> first | (exfalso; omega) | (rw [if_pos hb]) | (rw [if_neg (by omega)])

theorem busRead_ie {s : State} {a : Word} (hie : a.toNat = 0xFFFF) : busRead s a = .ok s.ie := by
  rw [busRead, region_of_holds (r := .ie) hie]

/-- The key of an on-board address below IE is a key of the five arrays. -/
theorem backed_home {a : Word} (h : stored a) (hie : a.toNat ≠ 0xFFFF) : backed (home a) := by
  have := a.isLt
  simp only [home, backed]
  split <;> omega

/-- A read sees a write of another key nowhere. -/
theorem busRead_write_other {s : State} {key : Nat} {v : Byte} {b : Word} (h : home b ≠ key) :
    busRead { s with mem := Memory.write s.mem key v } b = busRead s b := by
  have hb := region_holds b
  cases hr : region b <;> rw [hr] at hb <;> simp only [Region.holds] at hb <;>
    unfold busRead <;> rw [hr] <;> first | rfl | skip
  all_goals
    refine congrArg Except.ok (Memory.read_write_other _ _ _ _ ?_)
    simp only [home] at h
    first
      | (rw [if_pos hb] at h; exact h)
      | (rw [if_neg (by omega)] at h; exact h)

/-- The two halves of an access to storage, once and for all: the byte reads back, every other byte reads as before, and
no field but the storage changes. -/
theorem memWrite_stored {a : Word} (h : stored a) (v : Byte) (s : State) :
    ∃ t, memWrite a v s = .ok () t ∧ Stored a v s t ∧ { t with mem := s.mem, ie := s.ie } = s := by
  have hlt := a.isLt
  by_cases hie : a.toNat = 0xFFFF
  · refine ⟨_, memWrite_ie hie, ⟨busRead_ie hie, fun b hb => ?_⟩, rfl⟩
    have hr : region b ≠ .ie := by
      intro hr
      have hb' := region_holds b
      rw [hr] at hb'
      simp only [Region.holds] at hb'
      exact hb (by simp only [home, hie, hb'])
    cases hr' : region b <;> first | exact absurd hr' hr | (unfold busRead; rw [hr']; done) | (unfold busRead; rw [hr']; rfl)
  · refine ⟨_, memWrite_mem h hie, ⟨?_, fun b hb => busRead_write_other hb⟩, rfl⟩
    rw [busRead_mem h hie]
    simp

/-- The addresses of the two bytes of a push lie in different storage. -/
theorem home_succ_ne (a : Word) : home (a + 1) ≠ home a := by
  have h := a.isLt
  have h1 : (a + 1).toNat = (a.toNat + 1) % 65536 := by simp [BitVec.toNat_add]
  simp only [home, h1]
  split <;> split <;> omega

/-- A push onto storage. -/
theorem push16_stored {s : State} (v : Word) (h1 : stored (s.sp - 2)) (h2 : stored (s.sp - 1)) :
    ∃ t, push16 v s = .ok () t ∧ Pushed v s t ∧ { t with sp := s.sp, mem := s.mem, ie := s.ie } = s := by
  have hsp : s.sp - 2 + 1 = s.sp - 1 := by bv_omega
  obtain ⟨u, hu, su, fu⟩ := memWrite_stored h1 (loByte v) { s with sp := s.sp - 2 }
  obtain ⟨t, ht, st, ft⟩ := memWrite_stored h2 (hiByte v) u
  have hne : home (s.sp - 1) ≠ home (s.sp - 2) := by rw [← hsp]; exact home_succ_ne _
  have fsp : u.sp = s.sp - 2 := (congrArg State.sp fu :)
  refine ⟨t, ?_, ⟨?_, ?_, st.here, fun b hb1 hb2 => ?_⟩, ?_⟩
  · simp only [push16, memWrite16, hu, Res.andThen_ok, hsp, ht]
  · rw [← fsp]; exact (congrArg State.sp ft :)
  · rw [st.others _ (Ne.symm hne)]; exact su.here
  · rw [st.others b hb2, su.others b hb1]; rfl
  · have e := congrArg (fun x : State => { x with sp := s.sp, mem := s.mem, ie := s.ie }) ft
    have e' := congrArg (fun x : State => { x with sp := s.sp }) fu
    simp only at e e'
    rw [e]
    exact e'

/-- A push is its two bus writes, SP moved first: the low byte, then the high byte if the first write raised nothing. -/
theorem push16_eq (v : Word) (s : State) : push16 v s = pushWrites v s := by
  unfold push16 pushWrites memWrite16
  simp only
  have hsp : s.sp - 2 + 1 = s.sp - 1 := by bv_omega
  rw [hsp]
  cases memWrite (s.sp - 2) (loByte v) { s with sp := s.sp - 2 } <;> rfl

/-- A byte stored in external RAM, by index: that byte of that bank and no other. -/
theorem memWrite_extRam {s : State} {a : Word} {v : Byte} (hr : region a = .extRam) (hk : s.kind ≠ .noMbc)
    (he : s.ramEnabled = true) (hi : ramIndex s a < s.cfg.extRamSize) :
    memWrite a v s = .ok () { s with extRam := Memory.write s.extRam (ramIndex s a) v } := by
  unfold memWrite
  rw [hr]
  simp only [cartRamWrite, if_neg hk, he, hi, if_true]
  rfl

end Sys2Proof.Machine
end

