-- ==== Sys2Proof/Laws/Closed.lean ====
section
/-! SUPPORT. What any instruction can do, said once: a property of states that the named updates keep is kept by every
instruction, but for the four that move the engine's own flags. -/

namespace Sys2Proof.Machine

/-- A property that the updates an instruction is made of keep. -/
structure Closed (P : State → Prop) : Prop where
  setReg : ∀ s r v, P s → P (s.setReg r v)
  writeF : ∀ s v, P s → P (s.writeF v)
  pc : ∀ (s : State) w, P s → P { s with pc := w }
  sp : ∀ (s : State) w, P s → P { s with sp := w }
  raise : ∀ (s : State) k, P s → P { s with fault := some k }
  write : ∀ a v s, P s → P (memWrite a v s).state

variable {P : State → Prop}

namespace Closed

theorem setFlags (hP : Closed P) (s : State) (fl : Flags) (h : P s) : P (s.setFlags fl) := hP.writeF s _ h

theorem setFlag (hP : Closed P) (s : State) (w : Flag) (v : Bool) (h : P s) : P (s.setFlag w v) := hP.writeF s _ h

theorem setBC (hP : Closed P) (s : State) (v : Word) (h : P s) : P (s.setBC v) :=
  hP.setReg (s.setReg .b (hiByte v)) .c (loByte v) (hP.setReg s .b _ h)

theorem setDE (hP : Closed P) (s : State) (v : Word) (h : P s) : P (s.setDE v) :=
  hP.setReg (s.setReg .d (hiByte v)) .e (loByte v) (hP.setReg s .d _ h)

theorem setHL (hP : Closed P) (s : State) (v : Word) (h : P s) : P (s.setHL v) :=
  hP.setReg (s.setReg .h (hiByte v)) .l (loByte v) (hP.setReg s .h _ h)

theorem setAF (hP : Closed P) (s : State) (v : Word) (h : P s) : P (s.setAF v) :=
  hP.writeF (s.setReg .a (hiByte v)) (loByte v) (hP.setReg s .a _ h)

theorem setPair (hP : Closed P) (s : State) (p : Pair) (v : Word) (h : P s) : P (s.setPair p v) := by
  cases p
  · exact hP.setBC s v h
  · exact hP.setDE s v h
  · exact hP.setHL s v h
  · exact hP.sp s v h

theorem setStackPair (hP : Closed P) (s : State) (p : StackPair) (v : Word) (h : P s) : P (s.setStackPair p v) := by
  cases p
  · exact hP.setBC s v h
  · exact hP.setDE s v h
  · exact hP.setHL s v h
  · exact hP.setAF s v h

/-- A read, then a statement that keeps the property. -/
theorem read {β : Type} (hP : Closed P) (a : Word) (s : State) (k : Byte → State → Res β) (h : P s)
    (hk : ∀ v, P (k v s).state) : P ((memRead a s).andThen k).state := by
  rcases memRead_cases a s with ⟨v, -, e⟩ | ⟨r, -, e⟩ <;> rw [e]
  · exact hk v
  · exact hP.raise s r h

/-- A write, then a statement that keeps the property. -/
theorem writeThen {β : Type} (hP : Closed P) (a : Word) (v : Byte) (s : State) (k : Unit → State → Res β) (h : P s)
    (hk : ∀ t, P t → P (k () t).state) : P ((memWrite a v s).andThen k).state := by
  have hw := hP.write a v s h
  refine Res.state_andThen _ _ (fun t e => ?_) (fun _ t e => ?_) <;> rw [e] at hw
  · exact hw
  · exact hk t hw

theorem write16 (hP : Closed P) (a v : Word) (s : State) (h : P s) : P (memWrite16 a v s).state :=
  hP.writeThen a _ s _ h fun t ht => hP.write _ _ t ht

theorem push16 (hP : Closed P) (v : Word) (s : State) (h : P s) : P (push16 v s).state :=
  hP.write16 _ v _ (hP.sp s _ h)

/-- A pop, then a statement that keeps the property. -/
theorem pop {β : Type} (hP : Closed P) (s : State) (k : Word → State → Res β) (h : P s)
    (hk : ∀ v t, P t → P (k v t).state) : P ((pop16 s).andThen k).state := by
  simp only [pop16, memRead16]
  rcases memRead_cases s.sp s with ⟨lo, -, e⟩ | ⟨r, -, e⟩ <;> rw [e]
  · simp only [Res.andThen_ok]
    rcases memRead_cases (s.sp + 1) s with ⟨hi, -, e'⟩ | ⟨r, -, e'⟩ <;> rw [e']
    · exact hk _ _ (hP.sp s _ h)
    · exact hP.raise s r h
  · exact hP.raise s r h

/-- A fetched byte, then a statement that keeps the property. -/
theorem fetch {β : Type} (hP : Closed P) (s : State) (k : Byte → State → Res β) (h : P s)
    (hk : ∀ v t, P t → P (k v t).state) : P ((fetch8 s).andThen k).state := by
  simp only [fetch8]
  rcases memRead_cases s.pc s with ⟨v, -, e⟩ | ⟨r, -, e⟩ <;> rw [e]
  · exact hk _ _ (hP.pc s _ h)
  · exact hP.raise s r h

theorem readR {β : Type} (hP : Closed P) (o : Operand8) (s : State) (k : Byte → State → Res β) (h : P s)
    (hk : ∀ v, P (k v s).state) : P ((readR o s).andThen k).state := by
  cases o with
  | reg r => exact hk _
  | memHL => exact hP.read _ _ _ h hk

theorem writeR (hP : Closed P) (o : Operand8) (v : Byte) (s : State) (h : P s) : P (writeR o v s).state := by
  cases o with
  | reg r => exact hP.setReg s r v h
  | memHL => exact hP.write _ _ _ h

/-- The fetch of an instruction. -/
theorem fetchInstr (hP : Closed P) (s : State) (h : P s) : P (fetchInstr s).state := by
  refine hP.fetch s _ h fun op t ht => ?_
  cases primaryRow op with
  | op i => exact ht
  | op8 f => exact hP.fetch t _ ht fun v u hu => hu
  | op16 f =>
    show P ((fetch16 t).andThen _).state
    refine Res.state_andThen (P := P) _ _ (fun u e => ?_) (fun w u e => ?_)
    all_goals
      have h16 : P (fetch16 t).state := hP.fetch t _ ht fun lo t1 h1 => hP.fetch t1 _ h1 fun hi t2 h2 => h2
      rw [e] at h16
      exact h16
  | cb => exact hP.fetch t _ ht fun v u hu => hu

end Closed

/-! ## The shapes -/

variable {s : State}

theorem ldRegReg_closed (hP : Closed P) (dst src : Reg8) (hs : P s) : ∃ t, ldRegReg dst src s = .next t ∧ P t :=
  ⟨_, rfl, hP.setReg _ _ _ hs⟩

theorem ldRegImm_closed (hP : Closed P) (dst : Reg8) (n : Byte) (hs : P s) : ∃ t, ldRegImm dst n s = .next t ∧ P t :=
  ⟨_, rfl, hP.setReg _ _ _ hs⟩

theorem ldRegFrom_closed (hP : Closed P) (dst : Reg8) (a : Word) (hs : P s) : ∃ t, ldRegFrom dst a s = .next t ∧ P t :=
  ⟨_, rfl, hP.read a s _ hs fun _ => hP.setReg _ _ _ hs⟩

theorem store_closed (hP : Closed P) (a : Word) (v : Byte) (hs : P s) : ∃ t, store a v s = .next t ∧ P t :=
  ⟨_, rfl, hP.write a v s hs⟩

theorem ldAStep_closed (hP : Closed P) (d : Word) (hs : P s) : ∃ t, ldAStep d s = .next t ∧ P t :=
  ⟨_, rfl, hP.read _ s _ hs fun _ => hP.setHL _ _ (hP.setReg _ _ _ hs)⟩

theorem storeAStep_closed (hP : Closed P) (d : Word) (hs : P s) : ∃ t, storeAStep d s = .next t ∧ P t :=
  ⟨_, rfl, hP.writeThen _ _ s _ hs fun _ ht => hP.setHL _ _ ht⟩

theorem ldPairImm_closed (hP : Closed P) (p : Pair) (nn : Word) (hs : P s) : ∃ t, ldPairImm p nn s = .next t ∧ P t :=
  ⟨_, rfl, hP.setPair _ _ _ hs⟩

theorem pushPair_closed (hP : Closed P) (p : StackPair) (hs : P s) : ∃ t, pushPair p s = .next t ∧ P t :=
  ⟨_, rfl, hP.push16 _ _ hs⟩

theorem popPair_closed (hP : Closed P) (p : StackPair) (hs : P s) : ∃ t, popPair p s = .next t ∧ P t :=
  ⟨_, rfl, hP.pop s _ hs fun _ _ ht => hP.setStackPair _ _ _ ht⟩

theorem jumpIf_closed (hP : Closed P) (b : Bool) (target : Word) (hs : P s) : ∃ t, jumpIf b target s = .next t ∧ P t := by
  refine ⟨_, rfl, ?_⟩
  split
  · exact hP.pc _ _ hs
  · exact hs

theorem callIf_closed (hP : Closed P) (b : Bool) (target : Word) (hs : P s) :
    ∃ t, callIf b target s = .next t ∧ P t := by
  cases b with
  | false => exact ⟨_, rfl, hs⟩
  | true =>
    refine ⟨_, rfl, Res.state_andThen (P := P) _ _ (fun u e => ?_) (fun _ u e => ?_)⟩
    all_goals
      have h := hP.push16 s.pc s hs
      rw [e] at h
    · exact h
    · exact hP.pc _ _ h

theorem retIf_closed (hP : Closed P) (b : Bool) (hs : P s) : ∃ t, retIf b s = .next t ∧ P t := by
  cases b with
  | false => exact ⟨_, rfl, hs⟩
  | true => exact ⟨_, rfl, hP.pop s _ hs fun _ _ ht => hP.pc _ _ ht⟩

theorem aluApply_closed (hP : Closed P) (op : AluOp) (v : Byte) (s : State) (hs : P s) : P (aluApply op v s) :=
  hP.setReg _ _ _ (hP.setFlags _ _ hs)

theorem aluWith_closed (hP : Closed P) (op : AluOp) (o : Operand8) (hs : P s) : ∃ t, aluWith op o s = .next t ∧ P t :=
  ⟨_, rfl, hP.readR o s _ hs fun _ => aluApply_closed hP _ _ _ hs⟩

theorem aluImm_closed (hP : Closed P) (op : AluOp) (n : Byte) (hs : P s) : ∃ t, aluImm op n s = .next t ∧ P t :=
  ⟨_, rfl, aluApply_closed hP _ _ _ hs⟩

theorem addToHL_closed (hP : Closed P) (p : Pair) (hs : P s) : ∃ t, addToHL p s = .next t ∧ P t :=
  ⟨_, rfl, hP.setHL _ _ (hP.setFlags _ _ hs)⟩

theorem modifyWithFlags_closed (hP : Closed P) (o : Operand8) (f : Byte → Bool → Byte × Flags) (s : State) (hs : P s) :
    P (modifyWithFlags o f s).state :=
  hP.readR o s _ hs fun _ => hP.writeR o _ _ (hP.setFlags _ _ hs)

theorem modifyPlain_closed (hP : Closed P) (o : Operand8) (f : Byte → Byte) (s : State) (hs : P s) :
    P (modifyPlain o f s).state :=
  hP.readR o s _ hs fun _ => hP.writeR o _ _ hs

theorem rotateA_closed (hP : Closed P) (k : RotOp) (hs : P s) : ∃ t, rotateA k s = .next t ∧ P t :=
  ⟨_, rfl, hP.setReg _ _ _ (hP.setFlags _ _ hs)⟩

theorem rotate_closed (hP : Closed P) (k : RotOp) (o : Operand8) (hs : P s) : ∃ t, rotate k o s = .next t ∧ P t :=
  ⟨_, rfl, modifyWithFlags_closed hP o _ s hs⟩

theorem testBit_closed (hP : Closed P) (b : Fin 8) (o : Operand8) (hs : P s) : ∃ t, testBit b o s = .next t ∧ P t :=
  ⟨_, rfl, hP.readR o s _ hs fun _ => hP.setFlags _ _ hs⟩

theorem illegal_closed (hP : Closed P) (opcode : Byte) (hs : P s) : ∃ t, illegal opcode s = .next t ∧ P t :=
  ⟨_, rfl, hP.raise _ _ hs⟩

theorem prefixCb_closed (hP : Closed P) (hs : P s) : ∃ t, execPrefixCb s = .next t ∧ P t := by
  refine ⟨_, rfl, hP.fetch s _ hs fun op2 t ht => ?_⟩
  simp only [runCb]
  split
  · exact modifyWithFlags_closed hP _ _ _ ht
  · exact hP.readR _ _ _ ht fun _ => hP.setFlags _ _ ht
  · exact modifyPlain_closed hP _ _ _ ht
  · exact modifyPlain_closed hP _ _ _ ht

/-- Every instruction but HALT, DI, EI and RETI gives a next state and keeps what the updates keep. -/
theorem exec_closed (hP : Closed P) (i : Instr) (hs : P s) (hi : i ≠ .halt ∧ i ≠ .di ∧ i ≠ .ei ∧ i ≠ .reti) :
    ∃ t, exec i s = .next t ∧ P t :=
  match i with
  | .nop => ⟨_, rfl, hs⟩
  | .ldBCNn nn => ldPairImm_closed hP .bc nn hs
  | .ldMemBCA => store_closed hP s.bc s.a hs
  | .incBC => ⟨_, rfl, hP.setPair _ _ _ hs⟩
  | .incB => ⟨_, rfl, modifyWithFlags_closed hP (.reg .b) inc8 s hs⟩
  | .decB => ⟨_, rfl, modifyWithFlags_closed hP (.reg .b) dec8 s hs⟩
  | .ldBN n => ldRegImm_closed hP .b n hs
  | .rlca => rotateA_closed hP .rlc hs
  | .ldMemNnSP nn => ⟨_, rfl, hP.write16 nn s.sp s hs⟩
  | .addHLBC => addToHL_closed hP .bc hs
  | .ldAMemBC => ldRegFrom_closed hP .a s.bc hs
  | .decBC => ⟨_, rfl, hP.setPair _ _ _ hs⟩
  | .incC => ⟨_, rfl, modifyWithFlags_closed hP (.reg .c) inc8 s hs⟩
  | .decC => ⟨_, rfl, modifyWithFlags_closed hP (.reg .c) dec8 s hs⟩
  | .ldCN n => ldRegImm_closed hP .c n hs
  | .rrca => rotateA_closed hP .rrc hs
  | .stop => ⟨_, rfl, hP.raise _ _ hs⟩
  | .ldDENn nn => ldPairImm_closed hP .de nn hs
  | .ldMemDEA => store_closed hP s.de s.a hs
  | .incDE => ⟨_, rfl, hP.setPair _ _ _ hs⟩
  | .incD => ⟨_, rfl, modifyWithFlags_closed hP (.reg .d) inc8 s hs⟩
  | .decD => ⟨_, rfl, modifyWithFlags_closed hP (.reg .d) dec8 s hs⟩
  | .ldDN n => ldRegImm_closed hP .d n hs
  | .rla => rotateA_closed hP .rl hs
  | .jrE8 e => jumpIf_closed hP true (s.pc + sext16 e) hs
  | .addHLDE => addToHL_closed hP .de hs
  | .ldAMemDE => ldRegFrom_closed hP .a s.de hs
  | .decDE => ⟨_, rfl, hP.setPair _ _ _ hs⟩
  | .incE => ⟨_, rfl, modifyWithFlags_closed hP (.reg .e) inc8 s hs⟩
  | .decE => ⟨_, rfl, modifyWithFlags_closed hP (.reg .e) dec8 s hs⟩
  | .ldEN n => ldRegImm_closed hP .e n hs
  | .rra => rotateA_closed hP .rr hs
  | .jrNZE8 e => jumpIf_closed hP (cond .nz s) (s.pc + sext16 e) hs
  | .ldHLNn nn => ldPairImm_closed hP .hl nn hs
  | .ldMemHLIncA => storeAStep_closed hP 1 hs
  | .incHL => ⟨_, rfl, hP.setPair _ _ _ hs⟩
  | .incH => ⟨_, rfl, modifyWithFlags_closed hP (.reg .h) inc8 s hs⟩
  | .decH => ⟨_, rfl, modifyWithFlags_closed hP (.reg .h) dec8 s hs⟩
  | .ldHN n => ldRegImm_closed hP .h n hs
  | .daa => ⟨_, rfl, hP.setReg _ _ _ (hP.setFlags _ _ hs)⟩
  | .jrZE8 e => jumpIf_closed hP (cond .z s) (s.pc + sext16 e) hs
  | .addHLHL => addToHL_closed hP .hl hs
  | .ldAMemHLInc => ldAStep_closed hP 1 hs
  | .decHL => ⟨_, rfl, hP.setPair _ _ _ hs⟩
  | .incL => ⟨_, rfl, modifyWithFlags_closed hP (.reg .l) inc8 s hs⟩
  | .decL => ⟨_, rfl, modifyWithFlags_closed hP (.reg .l) dec8 s hs⟩
  | .ldLN n => ldRegImm_closed hP .l n hs
  | .cpl => ⟨_, rfl, hP.setFlag _ _ _ (hP.setFlag _ _ _ (hP.setReg _ _ _ hs))⟩
  | .jrNCE8 e => jumpIf_closed hP (cond .nc s) (s.pc + sext16 e) hs
  | .ldSPNn nn => ldPairImm_closed hP .sp nn hs
  | .ldMemHLDecA => storeAStep_closed hP (-1) hs
  | .incSP => ⟨_, rfl, hP.setPair _ _ _ hs⟩
  | .incMemHL => ⟨_, rfl, modifyWithFlags_closed hP .memHL inc8 s hs⟩
  | .decMemHL => ⟨_, rfl, modifyWithFlags_closed hP .memHL dec8 s hs⟩
  | .ldMemHLN n => store_closed hP s.hl n hs
  | .scf => ⟨_, rfl, hP.setFlag _ _ _ (hP.setFlag _ _ _ (hP.setFlag _ _ _ hs))⟩
  | .jrCE8 e => jumpIf_closed hP (cond .c s) (s.pc + sext16 e) hs
  | .addHLSP => addToHL_closed hP .sp hs
  | .ldAMemHLDec => ldAStep_closed hP (-1) hs
  | .decSP => ⟨_, rfl, hP.setPair _ _ _ hs⟩
  | .incA => ⟨_, rfl, modifyWithFlags_closed hP (.reg .a) inc8 s hs⟩
  | .decA => ⟨_, rfl, modifyWithFlags_closed hP (.reg .a) dec8 s hs⟩
  | .ldAN n => ldRegImm_closed hP .a n hs
  | .ccf => ⟨_, rfl, hP.setFlag _ _ _ (hP.setFlag _ _ _ (hP.setFlag _ _ _ hs))⟩
  | .ldBB => ldRegReg_closed hP .b .b hs
  | .ldBC => ldRegReg_closed hP .b .c hs
  | .ldBD => ldRegReg_closed hP .b .d hs
  | .ldBE => ldRegReg_closed hP .b .e hs
  | .ldBH => ldRegReg_closed hP .b .h hs
  | .ldBL => ldRegReg_closed hP .b .l hs
  | .ldBMemHL => ldRegFrom_closed hP .b s.hl hs
  | .ldBA => ldRegReg_closed hP .b .a hs
  | .ldCB => ldRegReg_closed hP .c .b hs
  | .ldCC => ldRegReg_closed hP .c .c hs
  | .ldCD => ldRegReg_closed hP .c .d hs
  | .ldCE => ldRegReg_closed hP .c .e hs
  | .ldCH => ldRegReg_closed hP .c .h hs
  | .ldCL => ldRegReg_closed hP .c .l hs
  | .ldCMemHL => ldRegFrom_closed hP .c s.hl hs
  | .ldCA => ldRegReg_closed hP .c .a hs
  | .ldDB => ldRegReg_closed hP .d .b hs
  | .ldDC => ldRegReg_closed hP .d .c hs
  | .ldDD => ldRegReg_closed hP .d .d hs
  | .ldDE => ldRegReg_closed hP .d .e hs
  | .ldDH => ldRegReg_closed hP .d .h hs
  | .ldDL => ldRegReg_closed hP .d .l hs
  | .ldDMemHL => ldRegFrom_closed hP .d s.hl hs
  | .ldDA => ldRegReg_closed hP .d .a hs
  | .ldEB => ldRegReg_closed hP .e .b hs
  | .ldEC => ldRegReg_closed hP .e .c hs
  | .ldED => ldRegReg_closed hP .e .d hs
  | .ldEE => ldRegReg_closed hP .e .e hs
  | .ldEH => ldRegReg_closed hP .e .h hs
  | .ldEL => ldRegReg_closed hP .e .l hs
  | .ldEMemHL => ldRegFrom_closed hP .e s.hl hs
  | .ldEA => ldRegReg_closed hP .e .a hs
  | .ldHB => ldRegReg_closed hP .h .b hs
  | .ldHC => ldRegReg_closed hP .h .c hs
  | .ldHD => ldRegReg_closed hP .h .d hs
  | .ldHE => ldRegReg_closed hP .h .e hs
  | .ldHH => ldRegReg_closed hP .h .h hs
  | .ldHL => ldRegReg_closed hP .h .l hs
  | .ldHMemHL => ldRegFrom_closed hP .h s.hl hs
  | .ldHA => ldRegReg_closed hP .h .a hs
  | .ldLB => ldRegReg_closed hP .l .b hs
  | .ldLC => ldRegReg_closed hP .l .c hs
  | .ldLD => ldRegReg_closed hP .l .d hs
  | .ldLE => ldRegReg_closed hP .l .e hs
  | .ldLH => ldRegReg_closed hP .l .h hs
  | .ldLL => ldRegReg_closed hP .l .l hs
  | .ldLMemHL => ldRegFrom_closed hP .l s.hl hs
  | .ldLA => ldRegReg_closed hP .l .a hs
  | .ldMemHLB => store_closed hP s.hl (s.reg .b) hs
  | .ldMemHLC => store_closed hP s.hl (s.reg .c) hs
  | .ldMemHLD => store_closed hP s.hl (s.reg .d) hs
  | .ldMemHLE => store_closed hP s.hl (s.reg .e) hs
  | .ldMemHLH => store_closed hP s.hl (s.reg .h) hs
  | .ldMemHLL => store_closed hP s.hl (s.reg .l) hs
  | .halt => absurd rfl hi.1
  | .ldMemHLA => store_closed hP s.hl (s.reg .a) hs
  | .ldAB => ldRegReg_closed hP .a .b hs
  | .ldAC => ldRegReg_closed hP .a .c hs
  | .ldAD => ldRegReg_closed hP .a .d hs
  | .ldAE => ldRegReg_closed hP .a .e hs
  | .ldAH => ldRegReg_closed hP .a .h hs
  | .ldAL => ldRegReg_closed hP .a .l hs
  | .ldAMemHL => ldRegFrom_closed hP .a s.hl hs
  | .ldAA => ldRegReg_closed hP .a .a hs
  | .addAB => aluWith_closed hP .add (.reg .b) hs
  | .addAC => aluWith_closed hP .add (.reg .c) hs
  | .addAD => aluWith_closed hP .add (.reg .d) hs
  | .addAE => aluWith_closed hP .add (.reg .e) hs
  | .addAH => aluWith_closed hP .add (.reg .h) hs
  | .addAL => aluWith_closed hP .add (.reg .l) hs
  | .addAMemHL => aluWith_closed hP .add .memHL hs
  | .addAA => aluWith_closed hP .add (.reg .a) hs
  | .adcAB => aluWith_closed hP .adc (.reg .b) hs
  | .adcAC => aluWith_closed hP .adc (.reg .c) hs
  | .adcAD => aluWith_closed hP .adc (.reg .d) hs
  | .adcAE => aluWith_closed hP .adc (.reg .e) hs
  | .adcAH => aluWith_closed hP .adc (.reg .h) hs
  | .adcAL => aluWith_closed hP .adc (.reg .l) hs
  | .adcAMemHL => aluWith_closed hP .adc .memHL hs
  | .adcAA => aluWith_closed hP .adc (.reg .a) hs
  | .subB => aluWith_closed hP .sub (.reg .b) hs
  | .subC => aluWith_closed hP .sub (.reg .c) hs
  | .subD => aluWith_closed hP .sub (.reg .d) hs
  | .subE => aluWith_closed hP .sub (.reg .e) hs
  | .subH => aluWith_closed hP .sub (.reg .h) hs
  | .subL => aluWith_closed hP .sub (.reg .l) hs
  | .subMemHL => aluWith_closed hP .sub .memHL hs
  | .subA => aluWith_closed hP .sub (.reg .a) hs
  | .sbcAB => aluWith_closed hP .sbc (.reg .b) hs
  | .sbcAC => aluWith_closed hP .sbc (.reg .c) hs
  | .sbcAD => aluWith_closed hP .sbc (.reg .d) hs
  | .sbcAE => aluWith_closed hP .sbc (.reg .e) hs
  | .sbcAH => aluWith_closed hP .sbc (.reg .h) hs
  | .sbcAL => aluWith_closed hP .sbc (.reg .l) hs
  | .sbcAMemHL => aluWith_closed hP .sbc .memHL hs
  | .sbcAA => aluWith_closed hP .sbc (.reg .a) hs
  | .andB => aluWith_closed hP .and (.reg .b) hs
  | .andC => aluWith_closed hP .and (.reg .c) hs
  | .andD => aluWith_closed hP .and (.reg .d) hs
  | .andE => aluWith_closed hP .and (.reg .e) hs
  | .andH => aluWith_closed hP .and (.reg .h) hs
  | .andL => aluWith_closed hP .and (.reg .l) hs
  | .andMemHL => aluWith_closed hP .and .memHL hs
  | .andA => aluWith_closed hP .and (.reg .a) hs
  | .xorB => aluWith_closed hP .xor (.reg .b) hs
  | .xorC => aluWith_closed hP .xor (.reg .c) hs
  | .xorD => aluWith_closed hP .xor (.reg .d) hs
  | .xorE => aluWith_closed hP .xor (.reg .e) hs
  | .xorH => aluWith_closed hP .xor (.reg .h) hs
  | .xorL => aluWith_closed hP .xor (.reg .l) hs
  | .xorMemHL => aluWith_closed hP .xor .memHL hs
  | .xorA => aluWith_closed hP .xor (.reg .a) hs
  | .orB => aluWith_closed hP .or (.reg .b) hs
  | .orC => aluWith_closed hP .or (.reg .c) hs
  | .orD => aluWith_closed hP .or (.reg .d) hs
  | .orE => aluWith_closed hP .or (.reg .e) hs
  | .orH => aluWith_closed hP .or (.reg .h) hs
  | .orL => aluWith_closed hP .or (.reg .l) hs
  | .orMemHL => aluWith_closed hP .or .memHL hs
  | .orA => aluWith_closed hP .or (.reg .a) hs
  | .cpB => aluWith_closed hP .cp (.reg .b) hs
  | .cpC => aluWith_closed hP .cp (.reg .c) hs
  | .cpD => aluWith_closed hP .cp (.reg .d) hs
  | .cpE => aluWith_closed hP .cp (.reg .e) hs
  | .cpH => aluWith_closed hP .cp (.reg .h) hs
  | .cpL => aluWith_closed hP .cp (.reg .l) hs
  | .cpMemHL => aluWith_closed hP .cp .memHL hs
  | .cpA => aluWith_closed hP .cp (.reg .a) hs
  | .retNZ => retIf_closed hP (cond .nz s) hs
  | .popBC => popPair_closed hP .bc hs
  | .jpNZNn nn => jumpIf_closed hP (cond .nz s) nn hs
  | .jpNn nn => jumpIf_closed hP true nn hs
  | .callNZNn nn => callIf_closed hP (cond .nz s) nn hs
  | .pushBC => pushPair_closed hP .bc hs
  | .addAN n => aluImm_closed hP .add n hs
  | .rst00 => callIf_closed hP true 0x0000 hs
  | .retZ => retIf_closed hP (cond .z s) hs
  | .ret => retIf_closed hP true hs
  | .jpZNn nn => jumpIf_closed hP (cond .z s) nn hs
  | .prefixCb => prefixCb_closed hP hs
  | .callZNn nn => callIf_closed hP (cond .z s) nn hs
  | .callNn nn => callIf_closed hP true nn hs
  | .adcAN n => aluImm_closed hP .adc n hs
  | .rst08 => callIf_closed hP true 0x0008 hs
  | .retNC => retIf_closed hP (cond .nc s) hs
  | .popDE => popPair_closed hP .de hs
  | .jpNCNn nn => jumpIf_closed hP (cond .nc s) nn hs
  | .illegalD3 => illegal_closed hP 0xD3 hs
  | .callNCNn nn => callIf_closed hP (cond .nc s) nn hs
  | .pushDE => pushPair_closed hP .de hs
  | .subN n => aluImm_closed hP .sub n hs
  | .rst10 => callIf_closed hP true 0x0010 hs
  | .retC => retIf_closed hP (cond .c s) hs
  | .reti => absurd rfl hi.2.2.2
  | .jpCNn nn => jumpIf_closed hP (cond .c s) nn hs
  | .illegalDB => illegal_closed hP 0xDB hs
  | .callCNn nn => callIf_closed hP (cond .c s) nn hs
  | .illegalDD => illegal_closed hP 0xDD hs
  | .sbcAN n => aluImm_closed hP .sbc n hs
  | .rst18 => callIf_closed hP true 0x0018 hs
  | .ldhMemNA n => store_closed hP (highPage n) s.a hs
  | .popHL => popPair_closed hP .hl hs
  | .ldMemCA => store_closed hP (highPage s.c) s.a hs
  | .illegalE3 => illegal_closed hP 0xE3 hs
  | .illegalE4 => illegal_closed hP 0xE4 hs
  | .pushHL => pushPair_closed hP .hl hs
  | .andN n => aluImm_closed hP .and n hs
  | .rst20 => callIf_closed hP true 0x0020 hs
  | .addSPE8 e => ⟨_, rfl, hP.sp _ _ (hP.setFlags _ _ hs)⟩
  | .jpHL => jumpIf_closed hP true s.hl hs
  | .ldMemNnA nn => store_closed hP nn s.a hs
  | .illegalEB => illegal_closed hP 0xEB hs
  | .illegalEC => illegal_closed hP 0xEC hs
  | .illegalED => illegal_closed hP 0xED hs
  | .xorN n => aluImm_closed hP .xor n hs
  | .rst28 => callIf_closed hP true 0x0028 hs
  | .ldhAMemN n => ldRegFrom_closed hP .a (highPage n) hs
  | .popAF => popPair_closed hP .af hs
  | .ldAMemC => ldRegFrom_closed hP .a (highPage s.c) hs
  | .di => absurd rfl hi.2.1
  | .illegalF4 => illegal_closed hP 0xF4 hs
  | .pushAF => pushPair_closed hP .af hs
  | .orN n => aluImm_closed hP .or n hs
  | .rst30 => callIf_closed hP true 0x0030 hs
  | .ldHLSPE8 e => ⟨_, rfl, hP.setHL _ _ (hP.setFlags _ _ hs)⟩
  | .ldSPHL => ⟨_, rfl, hP.sp _ _ hs⟩
  | .ldAMemNn nn => ldRegFrom_closed hP .a nn hs
  | .ei => absurd rfl hi.2.2.1
  | .illegalFC => illegal_closed hP 0xFC hs
  | .illegalFD => illegal_closed hP 0xFD hs
  | .cpN n => aluImm_closed hP .cp n hs
  | .rst38 => callIf_closed hP true 0x0038 hs
  | .rlcB => rotate_closed hP .rlc (.reg .b) hs
  | .rlcC => rotate_closed hP .rlc (.reg .c) hs
  | .rlcD => rotate_closed hP .rlc (.reg .d) hs
  | .rlcE => rotate_closed hP .rlc (.reg .e) hs
  | .rlcH => rotate_closed hP .rlc (.reg .h) hs
  | .rlcL => rotate_closed hP .rlc (.reg .l) hs
  | .rlcMemHL => rotate_closed hP .rlc .memHL hs
  | .rlcA => rotate_closed hP .rlc (.reg .a) hs
  | .rrcB => rotate_closed hP .rrc (.reg .b) hs
  | .rrcC => rotate_closed hP .rrc (.reg .c) hs
  | .rrcD => rotate_closed hP .rrc (.reg .d) hs
  | .rrcE => rotate_closed hP .rrc (.reg .e) hs
  | .rrcH => rotate_closed hP .rrc (.reg .h) hs
  | .rrcL => rotate_closed hP .rrc (.reg .l) hs
  | .rrcMemHL => rotate_closed hP .rrc .memHL hs
  | .rrcA => rotate_closed hP .rrc (.reg .a) hs
  | .rlB => rotate_closed hP .rl (.reg .b) hs
  | .rlC => rotate_closed hP .rl (.reg .c) hs
  | .rlD => rotate_closed hP .rl (.reg .d) hs
  | .rlE => rotate_closed hP .rl (.reg .e) hs
  | .rlH => rotate_closed hP .rl (.reg .h) hs
  | .rlL => rotate_closed hP .rl (.reg .l) hs
  | .rlMemHL => rotate_closed hP .rl .memHL hs
  | .rlA => rotate_closed hP .rl (.reg .a) hs
  | .rrB => rotate_closed hP .rr (.reg .b) hs
  | .rrC => rotate_closed hP .rr (.reg .c) hs
  | .rrD => rotate_closed hP .rr (.reg .d) hs
  | .rrE => rotate_closed hP .rr (.reg .e) hs
  | .rrH => rotate_closed hP .rr (.reg .h) hs
  | .rrL => rotate_closed hP .rr (.reg .l) hs
  | .rrMemHL => rotate_closed hP .rr .memHL hs
  | .rrA => rotate_closed hP .rr (.reg .a) hs
  | .slaB => rotate_closed hP .sla (.reg .b) hs
  | .slaC => rotate_closed hP .sla (.reg .c) hs
  | .slaD => rotate_closed hP .sla (.reg .d) hs
  | .slaE => rotate_closed hP .sla (.reg .e) hs
  | .slaH => rotate_closed hP .sla (.reg .h) hs
  | .slaL => rotate_closed hP .sla (.reg .l) hs
  | .slaMemHL => rotate_closed hP .sla .memHL hs
  | .slaA => rotate_closed hP .sla (.reg .a) hs
  | .sraB => rotate_closed hP .sra (.reg .b) hs
  | .sraC => rotate_closed hP .sra (.reg .c) hs
  | .sraD => rotate_closed hP .sra (.reg .d) hs
  | .sraE => rotate_closed hP .sra (.reg .e) hs
  | .sraH => rotate_closed hP .sra (.reg .h) hs
  | .sraL => rotate_closed hP .sra (.reg .l) hs
  | .sraMemHL => rotate_closed hP .sra .memHL hs
  | .sraA => rotate_closed hP .sra (.reg .a) hs
  | .swapB => rotate_closed hP .swap (.reg .b) hs
  | .swapC => rotate_closed hP .swap (.reg .c) hs
  | .swapD => rotate_closed hP .swap (.reg .d) hs
  | .swapE => rotate_closed hP .swap (.reg .e) hs
  | .swapH => rotate_closed hP .swap (.reg .h) hs
  | .swapL => rotate_closed hP .swap (.reg .l) hs
  | .swapMemHL => rotate_closed hP .swap .memHL hs
  | .swapA => rotate_closed hP .swap (.reg .a) hs
  | .srlB => rotate_closed hP .srl (.reg .b) hs
  | .srlC => rotate_closed hP .srl (.reg .c) hs
  | .srlD => rotate_closed hP .srl (.reg .d) hs
  | .srlE => rotate_closed hP .srl (.reg .e) hs
  | .srlH => rotate_closed hP .srl (.reg .h) hs
  | .srlL => rotate_closed hP .srl (.reg .l) hs
  | .srlMemHL => rotate_closed hP .srl .memHL hs
  | .srlA => rotate_closed hP .srl (.reg .a) hs
  | .bit0B => testBit_closed hP 0 (.reg .b) hs
  | .bit0C => testBit_closed hP 0 (.reg .c) hs
  | .bit0D => testBit_closed hP 0 (.reg .d) hs
  | .bit0E => testBit_closed hP 0 (.reg .e) hs
  | .bit0H => testBit_closed hP 0 (.reg .h) hs
  | .bit0L => testBit_closed hP 0 (.reg .l) hs
  | .bit0MemHL => testBit_closed hP 0 .memHL hs
  | .bit0A => testBit_closed hP 0 (.reg .a) hs
  | .bit1B => testBit_closed hP 1 (.reg .b) hs
  | .bit1C => testBit_closed hP 1 (.reg .c) hs
  | .bit1D => testBit_closed hP 1 (.reg .d) hs
  | .bit1E => testBit_closed hP 1 (.reg .e) hs
  | .bit1H => testBit_closed hP 1 (.reg .h) hs
  | .bit1L => testBit_closed hP 1 (.reg .l) hs
  | .bit1MemHL => testBit_closed hP 1 .memHL hs
  | .bit1A => testBit_closed hP 1 (.reg .a) hs
  | .bit2B => testBit_closed hP 2 (.reg .b) hs
  | .bit2C => testBit_closed hP 2 (.reg .c) hs
  | .bit2D => testBit_closed hP 2 (.reg .d) hs
  | .bit2E => testBit_closed hP 2 (.reg .e) hs
  | .bit2H => testBit_closed hP 2 (.reg .h) hs
  | .bit2L => testBit_closed hP 2 (.reg .l) hs
  | .bit2MemHL => testBit_closed hP 2 .memHL hs
  | .bit2A => testBit_closed hP 2 (.reg .a) hs
  | .bit3B => testBit_closed hP 3 (.reg .b) hs
  | .bit3C => testBit_closed hP 3 (.reg .c) hs
  | .bit3D => testBit_closed hP 3 (.reg .d) hs
  | .bit3E => testBit_closed hP 3 (.reg .e) hs
  | .bit3H => testBit_closed hP 3 (.reg .h) hs
  | .bit3L => testBit_closed hP 3 (.reg .l) hs
  | .bit3MemHL => testBit_closed hP 3 .memHL hs
  | .bit3A => testBit_closed hP 3 (.reg .a) hs
  | .bit4B => testBit_closed hP 4 (.reg .b) hs
  | .bit4C => testBit_closed hP 4 (.reg .c) hs
  | .bit4D => testBit_closed hP 4 (.reg .d) hs
  | .bit4E => testBit_closed hP 4 (.reg .e) hs
  | .bit4H => testBit_closed hP 4 (.reg .h) hs
  | .bit4L => testBit_closed hP 4 (.reg .l) hs
  | .bit4MemHL => testBit_closed hP 4 .memHL hs
  | .bit4A => testBit_closed hP 4 (.reg .a) hs
  | .bit5B => testBit_closed hP 5 (.reg .b) hs
  | .bit5C => testBit_closed hP 5 (.reg .c) hs
  | .bit5D => testBit_closed hP 5 (.reg .d) hs
  | .bit5E => testBit_closed hP 5 (.reg .e) hs
  | .bit5H => testBit_closed hP 5 (.reg .h) hs
  | .bit5L => testBit_closed hP 5 (.reg .l) hs
  | .bit5MemHL => testBit_closed hP 5 .memHL hs
  | .bit5A => testBit_closed hP 5 (.reg .a) hs
  | .bit6B => testBit_closed hP 6 (.reg .b) hs
  | .bit6C => testBit_closed hP 6 (.reg .c) hs
  | .bit6D => testBit_closed hP 6 (.reg .d) hs
  | .bit6E => testBit_closed hP 6 (.reg .e) hs
  | .bit6H => testBit_closed hP 6 (.reg .h) hs
  | .bit6L => testBit_closed hP 6 (.reg .l) hs
  | .bit6MemHL => testBit_closed hP 6 .memHL hs
  | .bit6A => testBit_closed hP 6 (.reg .a) hs
  | .bit7B => testBit_closed hP 7 (.reg .b) hs
  | .bit7C => testBit_closed hP 7 (.reg .c) hs
  | .bit7D => testBit_closed hP 7 (.reg .d) hs
  | .bit7E => testBit_closed hP 7 (.reg .e) hs
  | .bit7H => testBit_closed hP 7 (.reg .h) hs
  | .bit7L => testBit_closed hP 7 (.reg .l) hs
  | .bit7MemHL => testBit_closed hP 7 .memHL hs
  | .bit7A => testBit_closed hP 7 (.reg .a) hs
  | .res0B => ⟨_, rfl, modifyPlain_closed hP (.reg .b) (res8 0) s hs⟩
  | .res0C => ⟨_, rfl, modifyPlain_closed hP (.reg .c) (res8 0) s hs⟩
  | .res0D => ⟨_, rfl, modifyPlain_closed hP (.reg .d) (res8 0) s hs⟩
  | .res0E => ⟨_, rfl, modifyPlain_closed hP (.reg .e) (res8 0) s hs⟩
  | .res0H => ⟨_, rfl, modifyPlain_closed hP (.reg .h) (res8 0) s hs⟩
  | .res0L => ⟨_, rfl, modifyPlain_closed hP (.reg .l) (res8 0) s hs⟩
  | .res0MemHL => ⟨_, rfl, modifyPlain_closed hP .memHL (res8 0) s hs⟩
  | .res0A => ⟨_, rfl, modifyPlain_closed hP (.reg .a) (res8 0) s hs⟩
  | .res1B => ⟨_, rfl, modifyPlain_closed hP (.reg .b) (res8 1) s hs⟩
  | .res1C => ⟨_, rfl, modifyPlain_closed hP (.reg .c) (res8 1) s hs⟩
  | .res1D => ⟨_, rfl, modifyPlain_closed hP (.reg .d) (res8 1) s hs⟩
  | .res1E => ⟨_, rfl, modifyPlain_closed hP (.reg .e) (res8 1) s hs⟩
  | .res1H => ⟨_, rfl, modifyPlain_closed hP (.reg .h) (res8 1) s hs⟩
  | .res1L => ⟨_, rfl, modifyPlain_closed hP (.reg .l) (res8 1) s hs⟩
  | .res1MemHL => ⟨_, rfl, modifyPlain_closed hP .memHL (res8 1) s hs⟩
  | .res1A => ⟨_, rfl, modifyPlain_closed hP (.reg .a) (res8 1) s hs⟩
  | .res2B => ⟨_, rfl, modifyPlain_closed hP (.reg .b) (res8 2) s hs⟩
  | .res2C => ⟨_, rfl, modifyPlain_closed hP (.reg .c) (res8 2) s hs⟩
  | .res2D => ⟨_, rfl, modifyPlain_closed hP (.reg .d) (res8 2) s hs⟩
  | .res2E => ⟨_, rfl, modifyPlain_closed hP (.reg .e) (res8 2) s hs⟩
  | .res2H => ⟨_, rfl, modifyPlain_closed hP (.reg .h) (res8 2) s hs⟩
  | .res2L => ⟨_, rfl, modifyPlain_closed hP (.reg .l) (res8 2) s hs⟩
  | .res2MemHL => ⟨_, rfl, modifyPlain_closed hP .memHL (res8 2) s hs⟩
  | .res2A => ⟨_, rfl, modifyPlain_closed hP (.reg .a) (res8 2) s hs⟩
  | .res3B => ⟨_, rfl, modifyPlain_closed hP (.reg .b) (res8 3) s hs⟩
  | .res3C => ⟨_, rfl, modifyPlain_closed hP (.reg .c) (res8 3) s hs⟩
  | .res3D => ⟨_, rfl, modifyPlain_closed hP (.reg .d) (res8 3) s hs⟩
  | .res3E => ⟨_, rfl, modifyPlain_closed hP (.reg .e) (res8 3) s hs⟩
  | .res3H => ⟨_, rfl, modifyPlain_closed hP (.reg .h) (res8 3) s hs⟩
  | .res3L => ⟨_, rfl, modifyPlain_closed hP (.reg .l) (res8 3) s hs⟩
  | .res3MemHL => ⟨_, rfl, modifyPlain_closed hP .memHL (res8 3) s hs⟩
  | .res3A => ⟨_, rfl, modifyPlain_closed hP (.reg .a) (res8 3) s hs⟩
  | .res4B => ⟨_, rfl, modifyPlain_closed hP (.reg .b) (res8 4) s hs⟩
  | .res4C => ⟨_, rfl, modifyPlain_closed hP (.reg .c) (res8 4) s hs⟩
  | .res4D => ⟨_, rfl, modifyPlain_closed hP (.reg .d) (res8 4) s hs⟩
  | .res4E => ⟨_, rfl, modifyPlain_closed hP (.reg .e) (res8 4) s hs⟩
  | .res4H => ⟨_, rfl, modifyPlain_closed hP (.reg .h) (res8 4) s hs⟩
  | .res4L => ⟨_, rfl, modifyPlain_closed hP (.reg .l) (res8 4) s hs⟩
  | .res4MemHL => ⟨_, rfl, modifyPlain_closed hP .memHL (res8 4) s hs⟩
  | .res4A => ⟨_, rfl, modifyPlain_closed hP (.reg .a) (res8 4) s hs⟩
  | .res5B => ⟨_, rfl, modifyPlain_closed hP (.reg .b) (res8 5) s hs⟩
  | .res5C => ⟨_, rfl, modifyPlain_closed hP (.reg .c) (res8 5) s hs⟩
  | .res5D => ⟨_, rfl, modifyPlain_closed hP (.reg .d) (res8 5) s hs⟩
  | .res5E => ⟨_, rfl, modifyPlain_closed hP (.reg .e) (res8 5) s hs⟩
  | .res5H => ⟨_, rfl, modifyPlain_closed hP (.reg .h) (res8 5) s hs⟩
  | .res5L => ⟨_, rfl, modifyPlain_closed hP (.reg .l) (res8 5) s hs⟩
  | .res5MemHL => ⟨_, rfl, modifyPlain_closed hP .memHL (res8 5) s hs⟩
  | .res5A => ⟨_, rfl, modifyPlain_closed hP (.reg .a) (res8 5) s hs⟩
  | .res6B => ⟨_, rfl, modifyPlain_closed hP (.reg .b) (res8 6) s hs⟩
  | .res6C => ⟨_, rfl, modifyPlain_closed hP (.reg .c) (res8 6) s hs⟩
  | .res6D => ⟨_, rfl, modifyPlain_closed hP (.reg .d) (res8 6) s hs⟩
  | .res6E => ⟨_, rfl, modifyPlain_closed hP (.reg .e) (res8 6) s hs⟩
  | .res6H => ⟨_, rfl, modifyPlain_closed hP (.reg .h) (res8 6) s hs⟩
  | .res6L => ⟨_, rfl, modifyPlain_closed hP (.reg .l) (res8 6) s hs⟩
  | .res6MemHL => ⟨_, rfl, modifyPlain_closed hP .memHL (res8 6) s hs⟩
  | .res6A => ⟨_, rfl, modifyPlain_closed hP (.reg .a) (res8 6) s hs⟩
  | .res7B => ⟨_, rfl, modifyPlain_closed hP (.reg .b) (res8 7) s hs⟩
  | .res7C => ⟨_, rfl, modifyPlain_closed hP (.reg .c) (res8 7) s hs⟩
  | .res7D => ⟨_, rfl, modifyPlain_closed hP (.reg .d) (res8 7) s hs⟩
  | .res7E => ⟨_, rfl, modifyPlain_closed hP (.reg .e) (res8 7) s hs⟩
  | .res7H => ⟨_, rfl, modifyPlain_closed hP (.reg .h) (res8 7) s hs⟩
  | .res7L => ⟨_, rfl, modifyPlain_closed hP (.reg .l) (res8 7) s hs⟩
  | .res7MemHL => ⟨_, rfl, modifyPlain_closed hP .memHL (res8 7) s hs⟩
  | .res7A => ⟨_, rfl, modifyPlain_closed hP (.reg .a) (res8 7) s hs⟩
  | .set0B => ⟨_, rfl, modifyPlain_closed hP (.reg .b) (set8 0) s hs⟩
  | .set0C => ⟨_, rfl, modifyPlain_closed hP (.reg .c) (set8 0) s hs⟩
  | .set0D => ⟨_, rfl, modifyPlain_closed hP (.reg .d) (set8 0) s hs⟩
  | .set0E => ⟨_, rfl, modifyPlain_closed hP (.reg .e) (set8 0) s hs⟩
  | .set0H => ⟨_, rfl, modifyPlain_closed hP (.reg .h) (set8 0) s hs⟩
  | .set0L => ⟨_, rfl, modifyPlain_closed hP (.reg .l) (set8 0) s hs⟩
  | .set0MemHL => ⟨_, rfl, modifyPlain_closed hP .memHL (set8 0) s hs⟩
  | .set0A => ⟨_, rfl, modifyPlain_closed hP (.reg .a) (set8 0) s hs⟩
  | .set1B => ⟨_, rfl, modifyPlain_closed hP (.reg .b) (set8 1) s hs⟩
  | .set1C => ⟨_, rfl, modifyPlain_closed hP (.reg .c) (set8 1) s hs⟩
  | .set1D => ⟨_, rfl, modifyPlain_closed hP (.reg .d) (set8 1) s hs⟩
  | .set1E => ⟨_, rfl, modifyPlain_closed hP (.reg .e) (set8 1) s hs⟩
  | .set1H => ⟨_, rfl, modifyPlain_closed hP (.reg .h) (set8 1) s hs⟩
  | .set1L => ⟨_, rfl, modifyPlain_closed hP (.reg .l) (set8 1) s hs⟩
  | .set1MemHL => ⟨_, rfl, modifyPlain_closed hP .memHL (set8 1) s hs⟩
  | .set1A => ⟨_, rfl, modifyPlain_closed hP (.reg .a) (set8 1) s hs⟩
  | .set2B => ⟨_, rfl, modifyPlain_closed hP (.reg .b) (set8 2) s hs⟩
  | .set2C => ⟨_, rfl, modifyPlain_closed hP (.reg .c) (set8 2) s hs⟩
  | .set2D => ⟨_, rfl, modifyPlain_closed hP (.reg .d) (set8 2) s hs⟩
  | .set2E => ⟨_, rfl, modifyPlain_closed hP (.reg .e) (set8 2) s hs⟩
  | .set2H => ⟨_, rfl, modifyPlain_closed hP (.reg .h) (set8 2) s hs⟩
  | .set2L => ⟨_, rfl, modifyPlain_closed hP (.reg .l) (set8 2) s hs⟩
  | .set2MemHL => ⟨_, rfl, modifyPlain_closed hP .memHL (set8 2) s hs⟩
  | .set2A => ⟨_, rfl, modifyPlain_closed hP (.reg .a) (set8 2) s hs⟩
  | .set3B => ⟨_, rfl, modifyPlain_closed hP (.reg .b) (set8 3) s hs⟩
  | .set3C => ⟨_, rfl, modifyPlain_closed hP (.reg .c) (set8 3) s hs⟩
  | .set3D => ⟨_, rfl, modifyPlain_closed hP (.reg .d) (set8 3) s hs⟩
  | .set3E => ⟨_, rfl, modifyPlain_closed hP (.reg .e) (set8 3) s hs⟩
  | .set3H => ⟨_, rfl, modifyPlain_closed hP (.reg .h) (set8 3) s hs⟩
  | .set3L => ⟨_, rfl, modifyPlain_closed hP (.reg .l) (set8 3) s hs⟩
  | .set3MemHL => ⟨_, rfl, modifyPlain_closed hP .memHL (set8 3) s hs⟩
  | .set3A => ⟨_, rfl, modifyPlain_closed hP (.reg .a) (set8 3) s hs⟩
  | .set4B => ⟨_, rfl, modifyPlain_closed hP (.reg .b) (set8 4) s hs⟩
  | .set4C => ⟨_, rfl, modifyPlain_closed hP (.reg .c) (set8 4) s hs⟩
  | .set4D => ⟨_, rfl, modifyPlain_closed hP (.reg .d) (set8 4) s hs⟩
  | .set4E => ⟨_, rfl, modifyPlain_closed hP (.reg .e) (set8 4) s hs⟩
  | .set4H => ⟨_, rfl, modifyPlain_closed hP (.reg .h) (set8 4) s hs⟩
  | .set4L => ⟨_, rfl, modifyPlain_closed hP (.reg .l) (set8 4) s hs⟩
  | .set4MemHL => ⟨_, rfl, modifyPlain_closed hP .memHL (set8 4) s hs⟩
  | .set4A => ⟨_, rfl, modifyPlain_closed hP (.reg .a) (set8 4) s hs⟩
  | .set5B => ⟨_, rfl, modifyPlain_closed hP (.reg .b) (set8 5) s hs⟩
  | .set5C => ⟨_, rfl, modifyPlain_closed hP (.reg .c) (set8 5) s hs⟩
  | .set5D => ⟨_, rfl, modifyPlain_closed hP (.reg .d) (set8 5) s hs⟩
  | .set5E => ⟨_, rfl, modifyPlain_closed hP (.reg .e) (set8 5) s hs⟩
  | .set5H => ⟨_, rfl, modifyPlain_closed hP (.reg .h) (set8 5) s hs⟩
  | .set5L => ⟨_, rfl, modifyPlain_closed hP (.reg .l) (set8 5) s hs⟩
  | .set5MemHL => ⟨_, rfl, modifyPlain_closed hP .memHL (set8 5) s hs⟩
  | .set5A => ⟨_, rfl, modifyPlain_closed hP (.reg .a) (set8 5) s hs⟩
  | .set6B => ⟨_, rfl, modifyPlain_closed hP (.reg .b) (set8 6) s hs⟩
  | .set6C => ⟨_, rfl, modifyPlain_closed hP (.reg .c) (set8 6) s hs⟩
  | .set6D => ⟨_, rfl, modifyPlain_closed hP (.reg .d) (set8 6) s hs⟩
  | .set6E => ⟨_, rfl, modifyPlain_closed hP (.reg .e) (set8 6) s hs⟩
  | .set6H => ⟨_, rfl, modifyPlain_closed hP (.reg .h) (set8 6) s hs⟩
  | .set6L => ⟨_, rfl, modifyPlain_closed hP (.reg .l) (set8 6) s hs⟩
  | .set6MemHL => ⟨_, rfl, modifyPlain_closed hP .memHL (set8 6) s hs⟩
  | .set6A => ⟨_, rfl, modifyPlain_closed hP (.reg .a) (set8 6) s hs⟩
  | .set7B => ⟨_, rfl, modifyPlain_closed hP (.reg .b) (set8 7) s hs⟩
  | .set7C => ⟨_, rfl, modifyPlain_closed hP (.reg .c) (set8 7) s hs⟩
  | .set7D => ⟨_, rfl, modifyPlain_closed hP (.reg .d) (set8 7) s hs⟩
  | .set7E => ⟨_, rfl, modifyPlain_closed hP (.reg .e) (set8 7) s hs⟩
  | .set7H => ⟨_, rfl, modifyPlain_closed hP (.reg .h) (set8 7) s hs⟩
  | .set7L => ⟨_, rfl, modifyPlain_closed hP (.reg .l) (set8 7) s hs⟩
  | .set7MemHL => ⟨_, rfl, modifyPlain_closed hP .memHL (set8 7) s hs⟩
  | .set7A => ⟨_, rfl, modifyPlain_closed hP (.reg .a) (set8 7) s hs⟩

/-- Every instruction gives a next state: no meaning stops. -/
theorem exec_next (i : Instr) (s : State) : ∃ t, exec i s = .next t := by
  have hP : Closed (fun _ => True) := ⟨fun _ _ _ _ => trivial, fun _ _ _ => trivial, fun _ _ _ => trivial,
    fun _ _ _ => trivial, fun _ _ _ => trivial, fun _ _ _ _ => trivial⟩
  by_cases h1 : i = .halt
  · subst h1
    show ∃ t, haltOrRaise s = .next t
    unfold haltOrRaise
    split
    · exact ⟨_, rfl⟩
    · exact ⟨_, rfl⟩
  by_cases h2 : i = .di
  · subst h2; exact ⟨_, rfl⟩
  by_cases h3 : i = .ei
  · subst h3; exact ⟨_, rfl⟩
  by_cases h4 : i = .reti
  · subst h4; exact ⟨_, rfl⟩
  obtain ⟨t, ht, -⟩ := exec_closed (P := fun _ => True) (s := s) hP i trivial ⟨h1, h2, h3, h4⟩
  exact ⟨t, ht⟩

end Sys2Proof.Machine
end

