-- ==== Sys2Proof/Laws/Decode.lean ====
section
/-! SUPPORT. The decoder and the encoder on one opcode byte: the bytes consumed are the bytes encoded. -/

namespace Sys2Proof

/-- What an entry of the primary map must satisfy at its opcode byte: encoding gives the bytes back. -/
def Row.faithful (op : Byte) : Row → Prop
  | .op i => encode i = [op] ∧ i ≠ .prefixCb
  | .op8 f => ∀ b, encode (f b) = [op, b] ∧ f b ≠ .prefixCb
  | .op16 f => ∀ w, encode (f w) = [op, loByte w, hiByte w] ∧ f w ≠ .prefixCb
  | .cb => op = 0xCB

theorem row_op {op : Byte} {i : Instr} (h : encode i = [op]) (hn : i ≠ .prefixCb) : (Row.op i).faithful op := ⟨h, hn⟩

theorem row_op8 {op : Byte} {f : Byte → Instr} (h : ∀ b, encode (f b) = [op, b]) (hn : ∀ b, f b ≠ .prefixCb) :
    (Row.op8 f).faithful op := fun b => ⟨h b, hn b⟩

theorem row_op16 {op : Byte} {f : Word → Instr} (h : ∀ w, encode (f w) = [op, loByte w, hiByte w])
    (hn : ∀ w, f w ≠ .prefixCb) : (Row.op16 f).faithful op := fun w => ⟨h w, hn w⟩

/-- Every entry of the primary map encodes to its own opcode byte. -/
theorem primaryRow_faithful (op : Byte) : (primaryRow op).faithful op := by
  obtain ⟨⟨n, hn⟩⟩ := op
  have h : ∀ k : Fin 256, (primaryRow ⟨k⟩).faithful ⟨k⟩ := by
    intro k
    fin_cases k <;>
      first
        | exact row_op rfl (by decide)
        | exact row_op8 (fun _ => rfl) (fun _ h => nomatch h)
        | exact row_op16 (fun _ => rfl) (fun _ h => nomatch h)
        | exact (rfl : (_ : Byte) = _)
  exact h ⟨n, hn⟩

set_option maxRecDepth 20000 in
/-- Every entry of the CB map encodes to the two bytes that select it. -/
theorem cbInstr_faithful (op2 : Byte) : encode (cbInstr op2) = [0xCB, op2] ∧ cbInstr op2 ≠ .prefixCb := by
  obtain ⟨⟨n, hn⟩⟩ := op2
  have h : ∀ k : Fin 256, encode (cbInstr ⟨k⟩) = [0xCB, ⟨k⟩] ∧ cbInstr ⟨k⟩ ≠ .prefixCb := by decide
  exact h ⟨n, hn⟩

end Sys2Proof
end

