-- ==== Sys2Proof/Laws/Step.lean ====
section
/-! SUPPORT. One step, taken apart once: the wake-up, the dispatch, the halted tick, the fetch and the instruction. -/

namespace Sys2Proof.Machine

variable {s t : State}

/-! ## The wake-up -/

/-- The wake-up changes `halted` only. -/
theorem wake_eq (s : State) : wake s = { s with halted := (wake s).halted } := by
  unfold wake; split <;> rfl

theorem wake_of_running (h : s.halted = false) : wake s = s := by
  unfold wake; rw [if_neg]; rintro ⟨-, h', -⟩; rw [h] at h'; cases h'

theorem wake_of_quiet (h : pending s = 0) : wake s = s := by
  unfold wake; rw [if_neg]; rintro ⟨-, -, h'⟩; exact h' h

theorem wake_of_off (h : s.cfg.interruptDispatch = false) : wake s = s := by
  unfold wake; rw [if_neg]; rintro ⟨h', -⟩; rw [h] at h'; cases h'

theorem wake_of_pending (h1 : s.cfg.interruptDispatch = true) (h2 : pending s ≠ 0) :
    wake s = { s with halted := false } := by
  unfold wake
  cases hh : s.halted with
  | true => rw [if_pos ⟨h1, rfl, h2⟩]
  | false => rw [if_neg (by simp)]; rw [← hh]

@[simp] theorem wake_pc (s : State) : (wake s).pc = s.pc := by rw [wake_eq]
@[simp] theorem wake_ime (s : State) : (wake s).ime = s.ime := by rw [wake_eq]
@[simp] theorem wake_imeDelay (s : State) : (wake s).imeDelay = s.imeDelay := by rw [wake_eq]
@[simp] theorem wake_fault (s : State) : (wake s).fault = s.fault := by rw [wake_eq]
@[simp] theorem wake_cfg (s : State) : (wake s).cfg = s.cfg := by rw [wake_eq]
@[simp] theorem wake_mem (s : State) : (wake s).mem = s.mem := by rw [wake_eq]
@[simp] theorem wake_ie (s : State) : (wake s).ie = s.ie := by rw [wake_eq]

@[simp] theorem wake_pending (s : State) : pending (wake s) = pending s := by rw [wake_eq]; rfl

theorem wake_busRead (s : State) (a : Word) : busRead (wake s) a = busRead s a := by rw [wake_eq]; rfl

theorem wake_dispatchDue (s : State) : dispatchDue (wake s) ↔ dispatchDue s := by simp [dispatchDue]

/-! ## The end of an instruction -/

/-- The end of an instruction moves `ime` and its delay only. -/
theorem endOfInstruction_eq (s : State) :
    endOfInstruction s = { s with ime := (endOfInstruction s).ime, imeDelay := (endOfInstruction s).imeDelay } := by
  unfold endOfInstruction; split <;> rfl

/-! ## The fetch -/

/-- What a fetched instruction is: the one the bytes decode to; PC is past them and nothing else moved. -/
theorem fetchInstr_ok {i : Instr} (h : fetchInstr s = .ok i t) :
    ∃ op b1 b2 pc', busRead s s.pc = .ok op ∧ i = decodeBytes op b1 b2 ∧ t = { s with pc := pc' } := by
  simp only [fetchInstr] at h
  cases hop : busRead s s.pc with
  | error k => rw [fetch8_error hop] at h; cases h
  | ok op =>
    rw [fetch8_ok hop] at h
    simp only [Res.andThen_ok] at h
    cases hrow : primaryRow op with
    | op i' =>
      rw [hrow] at h
      cases h
      exact ⟨op, 0, 0, _, rfl, by simp [decodeBytes, hrow], rfl⟩
    | op8 f =>
      rw [hrow] at h
      simp only at h
      cases h1 : busRead { s with pc := s.pc + 1 } (s.pc + 1) with
      | error k => rw [fetch8_error (s := { s with pc := s.pc + 1 }) h1] at h; cases h
      | ok b1 =>
        rw [fetch8_ok (s := { s with pc := s.pc + 1 }) h1] at h
        cases h
        exact ⟨op, b1, 0, _, rfl, by simp [decodeBytes, hrow], rfl⟩
    | op16 f =>
      rw [hrow] at h
      simp only [fetch16] at h
      cases h1 : busRead { s with pc := s.pc + 1 } (s.pc + 1) with
      | error k => rw [fetch8_error (s := { s with pc := s.pc + 1 }) h1] at h; cases h
      | ok b1 =>
        rw [fetch8_ok (s := { s with pc := s.pc + 1 }) h1] at h
        simp only [Res.andThen_ok] at h
        cases h2 : busRead { s with pc := s.pc + 1 + 1 } (s.pc + 1 + 1) with
        | error k => rw [fetch8_error (s := { s with pc := s.pc + 1 + 1 }) h2] at h; cases h
        | ok b2 =>
          rw [fetch8_ok (s := { s with pc := s.pc + 1 + 1 }) h2] at h
          cases h
          exact ⟨op, b1, b2, _, rfl, by simp [decodeBytes, hrow], rfl⟩
    | cb =>
      rw [hrow] at h
      simp only at h
      cases h1 : busRead { s with pc := s.pc + 1 } (s.pc + 1) with
      | error k => rw [fetch8_error (s := { s with pc := s.pc + 1 }) h1] at h; cases h
      | ok b1 =>
        rw [fetch8_ok (s := { s with pc := s.pc + 1 }) h1] at h
        cases h
        exact ⟨op, b1, 0, _, rfl, by simp [decodeBytes, hrow], rfl⟩

/-! ## The step -/

/-- Everything a step can do: a dispatch, a halted tick, a fetch that faults, or an instruction and its end. -/
theorem step_cases (h : step s = .next t) : s.fault = none ∧
    ((dispatchDue s ∧ t = (dispatch (wake s)).state) ∨
      (¬ dispatchDue s ∧ (wake s).halted = true ∧ t = wake s) ∨
      (¬ dispatchDue s ∧ (wake s).halted = false ∧ fetchInstr (wake s) = .raised t) ∨
      (¬ dispatchDue s ∧ (wake s).halted = false ∧
        ∃ i u v, fetchInstr (wake s) = .ok i u ∧ exec i u = .next v ∧ t = endOfInstruction v)) := by
  unfold step at h
  cases hf : s.fault with
  | some k => rw [hf] at h; cases h
  | none =>
    rw [hf] at h
    refine ⟨rfl, ?_⟩
    simp only at h
    split at h
    · rename_i hd
      cases h
      exact .inl ⟨(wake_dispatchDue s).mp hd, rfl⟩
    · rename_i hd
      rw [wake_dispatchDue] at hd
      split at h
      · rename_i hh
        cases h
        exact .inr (.inl ⟨hd, hh, rfl⟩)
      · rename_i hh
        have hh' : (wake s).halted = false := by simpa using hh
        unfold runInstruction at h
        cases he : fetchInstr (wake s) with
        | raised u =>
          rw [he] at h
          cases h
          exact .inr (.inr (.inl ⟨hd, hh', rfl⟩))
        | ok i u =>
          rw [he] at h
          obtain ⟨v, hv⟩ := exec_next i u
          simp only [hv] at h
          cases h
          exact .inr (.inr (.inr ⟨hd, hh', i, u, v, rfl, hv, rfl⟩))

/-- What a piece of pseudocode leaves when one update follows it: that update, unless it raised. -/
theorem Res.state_andThen_done (r : Res Unit) (f : State → State) :
    (r.andThen fun _ t => done (f t)).state = match r with
      | .ok _ t => f t
      | .raised t => t := by
  cases r <;> rfl

/-- The dispatch with SP neither 0x0000 nor 0x0001: the flags and the request, then a push, then the vector. -/
theorem dispatch_eq (h0 : s.sp ≠ 0x0000) (h1 : s.sp ≠ 0x0001) :
    dispatch s = (pushWrites s.pc { s with
      mem := Memory.write s.mem 0xFF0F (s.ifReg &&& ~~~((1 : Byte) <<< (lowestSource (pending s)).val))
      ime := false
      imeDelay := 0 }).andThen fun _ t => done { t with pc := vector (lowestSource (pending s)) } := by
  unfold dispatch
  rw [if_neg (not_or.mpr ⟨h0, h1⟩)]
  simp only [push16_eq]

/-- A step that dispatches, with SP neither 0x0000 nor 0x0001: the machine runs, and the rest is the dispatch. -/
theorem step_of_dispatch (hf : s.fault = none) (hd : dispatchDue s) (h0 : s.sp ≠ 0x0000) (h1 : s.sp ≠ 0x0001) :
    step s = .next (match pushWrites s.pc { s with
        mem := Memory.write s.mem 0xFF0F (s.ifReg &&& ~~~((1 : Byte) <<< (lowestSource (pending s)).val))
        halted := false
        ime := false
        imeDelay := 0 } with
      | .ok _ t => { t with pc := vector (lowestSource (pending s)) }
      | .raised t => t) := by
  have hst : step s = .next (dispatch (wake s)).state := by
    unfold step
    rw [hf]
    simp only
    rw [if_pos ((wake_dispatchDue s).mpr hd)]
    rfl
  rw [hst, wake_of_pending hd.1 hd.2.2, dispatch_eq (s := { s with halted := false }) h0 h1]
  exact congrArg _ (Res.state_andThen_done _ _)

/-- A dispatch keeps what the updates keep, where the property looks at neither `ime` nor its delay. -/
theorem dispatch_closed {P : State → Prop} (hP : Closed P)
    (hi : ∀ (s : State) b d, P s → P { s with ime := b, imeDelay := d })
    (hm : ∀ (s : State) v, P s → P { s with mem := Memory.write s.mem 0xFF0F v }) (s : State) (h : P s) :
    P (dispatch s).state := by
  simp only [dispatch]
  split
  · exact hP.raise _ _ h
  · refine Res.state_andThen (P := P) _ _ (fun u e => ?_) (fun _ u e => ?_)
    all_goals
      have hp := hP.push16 s.pc _ (hi _ false 0 (hm s (s.ifReg &&& ~~~((1 : Byte) <<< (lowestSource (pending s)).val)) h))
      rw [e] at hp
    · exact hp
    · exact hP.pc _ _ hp

/-- A step keeps every property its updates keep, where the property looks at none of the engine flags: `ime`, its delay
and `halted`. -/
theorem step_closed {P : State → Prop} (hP : Closed P) (hi : ∀ (s : State) b d, P s → P { s with ime := b, imeDelay := d })
   (hh : ∀ (s : State) b, P s → P { s with halted := b })
    (hm : ∀ (s : State) v, P s → P { s with mem := Memory.write s.mem 0xFF0F v }) {s t} (h : P s) (hs : step s = .next t) : P t := by
  have hw : P (wake s) := by rw [wake_eq]; exact hh _ _ h
  obtain ⟨hf, hc⟩ := step_cases hs
  rcases hc with ⟨-, rfl⟩ | ⟨-, -, rfl⟩ | ⟨-, -, he⟩ | ⟨-, -, i, u, v, he, hx, rfl⟩
  · exact dispatch_closed hP hi hm _ hw
  · exact hw
  · have := hP.fetchInstr _ hw
    rw [he] at this; exact this
  · have hu := hP.fetchInstr _ hw
    rw [he] at hu
    simp only [Res.state] at hu
    rw [endOfInstruction_eq]
    apply hi
    by_cases hi' : i ≠ .halt ∧ i ≠ .di ∧ i ≠ .ei ∧ i ≠ .reti
    · obtain ⟨v', hv', hI⟩ := exec_closed hP i hu hi'
      rw [hx] at hv'; cases hv'
      exact hI
    · have : i = .halt ∨ i = .di ∨ i = .ei ∨ i = .reti := by tauto
      rcases this with rfl | rfl | rfl | rfl
      · have : haltOrRaise u = .next v := hx
        unfold haltOrRaise at this
        split at this
        · cases this; exact hP.raise _ _ hu
        · cases this; exact hh _ _ hu
      · cases hx; exact hi _ _ _ hu
      · cases hx; exact hi u u.ime 2 hu
      · have : (returnFromInterrupt u).out = .next v := hx
        have e : (returnFromInterrupt u).state = v := by
          rw [Res.out_eq] at this; exact (by injection this)
        rw [← e]
        exact hP.pop u _ hu fun w t ht => hi { t with pc := w } true 0 (hP.pc _ _ ht)

end Sys2Proof.Machine
end

