-- ==== Sys2Proof/Laws/Inv.lean ====
section
/-! SUPPORT. What a bus write may change, and that the updates an instruction is made of keep the invariant. -/

namespace Sys2Proof.Machine

/-! ## What a write leaves -/

/-- Everything a bus write can leave, in one case analysis: an update of the storage, of the bank state or of the
fault record. -/
theorem memWrite_cases (a : Word) (v : Byte) (s : State) :
    (∃ key, backed key ∧ (memWrite a v s).state = { s with mem := Memory.write s.mem key v }) ∨
    (memWrite a v s).state = { s with ie := v } ∨ (memWrite a v s).state = s ∨
    (∃ k, (memWrite a v s).state = { s with fault := some k }) ∨
    (s.kind ≠ .noMbc ∧ s.ramEnabled = true ∧ ∃ key, key < s.cfg.extRamSize ∧
      (memWrite a v s).state = { s with extRam := Memory.write s.extRam key v }) ∨
    (a.toNat ≤ 0x7FFF ∧ ¬ noHandler s ∧ (memWrite a v s).state = (controllerWrite a v s).state) := by
  have hb := region_holds a
  cases hr : region a <;> rw [hr] at hb <;> simp only [Region.holds] at hb <;> simp only [memWrite, hr]
  case rom0 =>
    by_cases hn : noHandler s
    · refine .inr (.inr (.inr (.inl ⟨.malformedCartridgeAddr a, ?_⟩)))
      rcases hn with hk | ⟨hk, hm⟩
      · simp only [controllerWrite, hk, raise_state]
      · simp only [controllerWrite, hk, hm, raise_state]
    · exact .inr (.inr (.inr (.inr (.inr ⟨by omega, hn, trivial⟩))))
  case romBank =>
    by_cases hn : noHandler s
    · refine .inr (.inr (.inr (.inl ⟨.malformedCartridgeAddr a, ?_⟩)))
      rcases hn with hk | ⟨hk, hm⟩
      · simp only [controllerWrite, hk, raise_state]
      · simp only [controllerWrite, hk, hm, raise_state]
    · exact .inr (.inr (.inr (.inr (.inr ⟨by omega, hn, trivial⟩))))
  case extRam =>
    unfold cartRamWrite
    split
    · exact .inr (.inr (.inr (.inl ⟨_, rfl⟩)))
    · rename_i hk
      split
      · rename_i he
        split
        · rename_i hlt
          exact .inr (.inr (.inr (.inr (.inl ⟨hk, he, _, hlt, rfl⟩))))
        · exact .inr (.inr (.inr (.inl ⟨_, rfl⟩)))
      · exact .inr (.inr (.inl rfl))
  case vram => exact .inl ⟨_, by unfold backed; omega, rfl⟩
  case wram => exact .inl ⟨_, by unfold backed; omega, rfl⟩
  case oam => exact .inl ⟨_, by unfold backed; omega, rfl⟩
  case io => exact .inl ⟨_, by unfold backed; omega, rfl⟩
  case hram => exact .inl ⟨_, by unfold backed; omega, rfl⟩
  case echo => exact .inl ⟨_, by unfold backed; omega, rfl⟩
  case unusable => exact .inr (.inr (.inl rfl))
  case ie => exact .inr (.inl rfl)

/-- A bank selection maps a bank inside the image or records a fault. -/
theorem selectRomBank_cases (bank : Nat) (s : State) :
    (bank * 0x4000 + 0x4000 ≤ s.romLen ∧ selectRomBank bank s = .ok () { s with romBankOffset := bank * 0x4000 }) ∨
    (s.romLen < bank * 0x4000 + 0x4000 ∧
      selectRomBank bank s = .raised { s with fault := some (.malformedCartridgeOffset (bank * 0x4000)) }) := by
  unfold selectRomBank
  split
  · exact .inl ⟨‹_›, rfl⟩
  · exact .inr ⟨by omega, rfl⟩

/-- The updates a controller write is made of. -/
structure BankClosed (P : State → Prop) : Prop where
  raise : ∀ (s : State) k, P s → P { s with fault := some k }
  offset : ∀ (s : State) bank, bank * 0x4000 + 0x4000 ≤ s.romLen → P s → P { s with romBankOffset := bank * 0x4000 }
  ramBank : ∀ (s : State) v, s.kind ≠ .noMbc → P s → P { s with ramBank := v }
  enable : ∀ (s : State) b, ¬ noHandler s → P s → P { s with ramEnabled := b }
  mbc5Lo : ∀ (s : State) v, s.kind = .mbc5 → P s → P { s with mbc5Lo := v }
  mbc5Hi : ∀ (s : State) v, s.kind = .mbc5 → P s → P { s with mbc5Hi := v }
  mbc1Lo : ∀ (s : State) v, s.kind = .mbc1 → v ≠ 0 → P s → P { s with mbc1BankLo := v }
  mbc1Hi : ∀ (s : State) v, s.kind = .mbc1 → P s → P { s with mbc1BankHi := v }
  mbc1Mode : ∀ (s : State) v, s.kind = .mbc1 → P s → P { s with mbc1Mode := v }

namespace BankClosed

variable {P : State → Prop}

theorem select (hP : BankClosed P) (bank : Nat) (s : State) (h : P s) : P (selectRomBank bank s).state := by
  rcases selectRomBank_cases bank s with ⟨hb, e⟩ | ⟨-, e⟩ <;> rw [e]
  · exact hP.offset s bank hb h
  · exact hP.raise s _ h

/-- A controller write keeps what its updates keep. -/
theorem controller (hP : BankClosed P) (a : Word) (v : Byte) (s : State) (hn : ¬ noHandler s) (h : P s) :
    P (controllerWrite a v s).state := by
  have hk0 : s.kind ≠ .noMbc := fun hk => hn (.inl hk)
  cases hk : s.kind
  case noMbc => exact absurd hk hk0
  case mbc1 =>
    cases hm : s.cfg.mbc1Mode with
    | fatal => exact absurd (.inr ⟨hk, hm⟩) hn
    | standard =>
      have e : controllerWrite a v s = mbc1Write a v s := by simp [controllerWrite, hk, hm]
      rw [e]
      unfold mbc1Write
      split_ifs
      · exact hP.enable s _ hn h
      · refine hP.select _ _ (hP.mbc1Lo s _ hk ?_ h)
        split
        · decide
        · assumption
      · simp only
        rcases selectRomBank_cases (mbc1Bank { s with mbc1BankHi := v.setWidth 2 }) { s with mbc1BankHi := v.setWidth 2 }
          with ⟨hb, e'⟩ | ⟨-, e'⟩ <;> rw [e']
        · exact hP.ramBank _ _ hk0 (hP.offset { s with mbc1BankHi := v.setWidth 2 } _ hb (hP.mbc1Hi s _ hk h))
        · exact hP.raise _ _ (hP.mbc1Hi s _ hk h)
      · exact hP.ramBank { s with mbc1Mode := v.setWidth 1 } _ hk0 (hP.mbc1Mode s _ hk h)
  case mbc2 =>
    have e : controllerWrite a v s = mbc2Write a v s := by simp [controllerWrite, hk]
    rw [e]
    unfold mbc2Write
    split_ifs
    · exact hP.raise s _ h
    · exact hP.enable s _ hn h
    · exact hP.select _ s h
    · exact hP.raise s _ h
    · exact hP.raise s _ h
  case mbc3 =>
    have e : controllerWrite a v s = mbc3Write a v s := by simp [controllerWrite, hk]
    rw [e]
    unfold mbc3Write
    split
    · exact hP.enable s _ hn h
    · split
      · exact hP.select _ s h
      · exact hP.ramBank s _ hk0 h
  case mbc5 =>
    have e : controllerWrite a v s = mbc5Write a v s := by simp [controllerWrite, hk]
    rw [e]
    unfold mbc5Write
    split_ifs
    · exact hP.enable s _ hn h
    · exact hP.select _ _ (hP.mbc5Lo s _ hk h)
    · exact hP.select _ _ (hP.mbc5Hi s _ hk h)
    · exact hP.ramBank s _ hk0 h
    · exact hP.raise s _ h

/-- A bus write keeps what its updates keep. -/
theorem write (hP : BankClosed P)
    (hmem : ∀ (s : State) key v, backed key → P s → P { s with mem := Memory.write s.mem key v })
    (hie : ∀ (s : State) v, P s → P { s with ie := v })
    (hext : ∀ (s : State) key v, s.kind ≠ .noMbc → key < s.cfg.extRamSize → P s →
      P { s with extRam := Memory.write s.extRam key v })
    (a : Word) (v : Byte) (s : State) (h : P s) : P (memWrite a v s).state := by
  rcases memWrite_cases a v s with ⟨key, hk, e⟩ | e | e | ⟨k, e⟩ | ⟨hk, -, key, hlt, e⟩ | ⟨-, hn, e⟩ <;> rw [e]
  · exact hmem s key v hk h
  · exact hie s v h
  · exact h
  · exact hP.raise s k h
  · exact hext s key v hk hlt h
  · exact hP.controller a v s hn h

end BankClosed

/-! ## The invariant -/

theorem inv_bankClosed : BankClosed State.Inv where
  raise _ _ h := { h with }
  offset _ bank hb h :=
    { h with
      bankAligned := Nat.mul_mod_left bank 0x4000
      bankFits := hb }
  ramBank _ _ _ h := { h with }
  enable _ _ hn h := { h with ramOff := fun hn' => absurd hn' hn }
  mbc5Lo _ _ _ h := { h with }
  mbc5Hi _ _ _ h := { h with }
  mbc1Lo _ _ _ hv h := { h with mbc1Lo := hv }
  mbc1Hi _ _ _ h := { h with }
  mbc1Mode _ _ _ h := { h with }

/-- The updates an instruction is made of keep the invariant. -/
theorem inv_closed : Closed State.Inv where
  setReg _ r _ h := by cases r <;> exact { h with }
  writeF _ v h := { h with fLow := and_F0_low v }
  pc _ _ h := { h with }
  sp _ _ h := { h with }
  raise := inv_bankClosed.raise
  write := inv_bankClosed.write
    (fun s key v hk h => { h with
      memWf := Memory.wf_write s.mem key v h.memWf
      memKeys := Memory.keys_write backed s.mem key v h.memKeys hk })
    (fun _ _ h => { h with })
    (fun s key v _ hk h => { h with
      extWf := Memory.wf_write s.extRam key v h.extWf
      extKeys := Memory.keys_write (· < s.cfg.extRamSize) s.extRam key v h.extKeys hk })

/-- The power-on memory is canonical. -/
theorem reset_memory_wf : Memory.wf State.reset.mem ∧ Memory.wf State.reset.rom ∧ Memory.wf State.reset.extRam :=
  ⟨Memory.wf_nil, Memory.wf_nil, Memory.wf_nil⟩

end Sys2Proof.Machine
end

