-- ==== Sys2Proof/Laws/PerInstr.lean ====
section
/-! SUPPORT. Statements made per instruction: the first byte of an encoding tells how many bytes it has. -/

namespace Sys2Proof.Laws.Encoding

/-- The length of an instruction is a function of its first byte (30_encoding.md R130). -/
def Statement (i : Instr) : Prop :=
  i.WellFormed → ∃ op, (encode i).head? = some op ∧ (encode i).length = operandBytes op + 1

/-- The statement from the bytes: the first one and how many there are. -/
theorem of_bytes {i : Instr} {n : Nat} (op : Byte) (h1 : (encode i).head? = some op) (h2 : (encode i).length = n)
    (h3 : n = operandBytes op + 1) : Statement i := fun _ => ⟨op, h1, h2.trans h3⟩

theorem two : 2 = operandBytes 0xCB + 1 := rfl

theorem nop : Statement .nop := of_bytes (0x00) rfl (n := 1) rfl rfl
theorem ldBCNn (nn : Word) : Statement (.ldBCNn nn) := of_bytes (0x01) rfl (n := 3) rfl rfl
theorem ldMemBCA : Statement .ldMemBCA := of_bytes (0x02) rfl (n := 1) rfl rfl
theorem incBC : Statement .incBC := of_bytes (0x03) rfl (n := 1) rfl rfl
theorem incB : Statement .incB := of_bytes (0x04) rfl (n := 1) rfl rfl
theorem decB : Statement .decB := of_bytes (0x05) rfl (n := 1) rfl rfl
theorem ldBN (n : Byte) : Statement (.ldBN n) := of_bytes (0x06) rfl (n := 2) rfl rfl
theorem rlca : Statement .rlca := of_bytes (0x07) rfl (n := 1) rfl rfl
theorem ldMemNnSP (nn : Word) : Statement (.ldMemNnSP nn) := of_bytes (0x08) rfl (n := 3) rfl rfl
theorem addHLBC : Statement .addHLBC := of_bytes (0x09) rfl (n := 1) rfl rfl
theorem ldAMemBC : Statement .ldAMemBC := of_bytes (0x0A) rfl (n := 1) rfl rfl
theorem decBC : Statement .decBC := of_bytes (0x0B) rfl (n := 1) rfl rfl
theorem incC : Statement .incC := of_bytes (0x0C) rfl (n := 1) rfl rfl
theorem decC : Statement .decC := of_bytes (0x0D) rfl (n := 1) rfl rfl
theorem ldCN (n : Byte) : Statement (.ldCN n) := of_bytes (0x0E) rfl (n := 2) rfl rfl
theorem rrca : Statement .rrca := of_bytes (0x0F) rfl (n := 1) rfl rfl
theorem stop : Statement .stop := of_bytes (0x10) rfl (n := 1) rfl rfl
theorem ldDENn (nn : Word) : Statement (.ldDENn nn) := of_bytes (0x11) rfl (n := 3) rfl rfl
theorem ldMemDEA : Statement .ldMemDEA := of_bytes (0x12) rfl (n := 1) rfl rfl
theorem incDE : Statement .incDE := of_bytes (0x13) rfl (n := 1) rfl rfl
theorem incD : Statement .incD := of_bytes (0x14) rfl (n := 1) rfl rfl
theorem decD : Statement .decD := of_bytes (0x15) rfl (n := 1) rfl rfl
theorem ldDN (n : Byte) : Statement (.ldDN n) := of_bytes (0x16) rfl (n := 2) rfl rfl
theorem rla : Statement .rla := of_bytes (0x17) rfl (n := 1) rfl rfl
theorem jrE8 (e : Byte) : Statement (.jrE8 e) := of_bytes (0x18) rfl (n := 2) rfl rfl
theorem addHLDE : Statement .addHLDE := of_bytes (0x19) rfl (n := 1) rfl rfl
theorem ldAMemDE : Statement .ldAMemDE := of_bytes (0x1A) rfl (n := 1) rfl rfl
theorem decDE : Statement .decDE := of_bytes (0x1B) rfl (n := 1) rfl rfl
theorem incE : Statement .incE := of_bytes (0x1C) rfl (n := 1) rfl rfl
theorem decE : Statement .decE := of_bytes (0x1D) rfl (n := 1) rfl rfl
theorem ldEN (n : Byte) : Statement (.ldEN n) := of_bytes (0x1E) rfl (n := 2) rfl rfl
theorem rra : Statement .rra := of_bytes (0x1F) rfl (n := 1) rfl rfl
theorem jrNZE8 (e : Byte) : Statement (.jrNZE8 e) := of_bytes (0x20) rfl (n := 2) rfl rfl
theorem ldHLNn (nn : Word) : Statement (.ldHLNn nn) := of_bytes (0x21) rfl (n := 3) rfl rfl
theorem ldMemHLIncA : Statement .ldMemHLIncA := of_bytes (0x22) rfl (n := 1) rfl rfl
theorem incHL : Statement .incHL := of_bytes (0x23) rfl (n := 1) rfl rfl
theorem incH : Statement .incH := of_bytes (0x24) rfl (n := 1) rfl rfl
theorem decH : Statement .decH := of_bytes (0x25) rfl (n := 1) rfl rfl
theorem ldHN (n : Byte) : Statement (.ldHN n) := of_bytes (0x26) rfl (n := 2) rfl rfl
theorem daa : Statement .daa := of_bytes (0x27) rfl (n := 1) rfl rfl
theorem jrZE8 (e : Byte) : Statement (.jrZE8 e) := of_bytes (0x28) rfl (n := 2) rfl rfl
theorem addHLHL : Statement .addHLHL := of_bytes (0x29) rfl (n := 1) rfl rfl
theorem ldAMemHLInc : Statement .ldAMemHLInc := of_bytes (0x2A) rfl (n := 1) rfl rfl
theorem decHL : Statement .decHL := of_bytes (0x2B) rfl (n := 1) rfl rfl
theorem incL : Statement .incL := of_bytes (0x2C) rfl (n := 1) rfl rfl
theorem decL : Statement .decL := of_bytes (0x2D) rfl (n := 1) rfl rfl
theorem ldLN (n : Byte) : Statement (.ldLN n) := of_bytes (0x2E) rfl (n := 2) rfl rfl
theorem cpl : Statement .cpl := of_bytes (0x2F) rfl (n := 1) rfl rfl
theorem jrNCE8 (e : Byte) : Statement (.jrNCE8 e) := of_bytes (0x30) rfl (n := 2) rfl rfl
theorem ldSPNn (nn : Word) : Statement (.ldSPNn nn) := of_bytes (0x31) rfl (n := 3) rfl rfl
theorem ldMemHLDecA : Statement .ldMemHLDecA := of_bytes (0x32) rfl (n := 1) rfl rfl
theorem incSP : Statement .incSP := of_bytes (0x33) rfl (n := 1) rfl rfl
theorem incMemHL : Statement .incMemHL := of_bytes (0x34) rfl (n := 1) rfl rfl
theorem decMemHL : Statement .decMemHL := of_bytes (0x35) rfl (n := 1) rfl rfl
theorem ldMemHLN (n : Byte) : Statement (.ldMemHLN n) := of_bytes (0x36) rfl (n := 2) rfl rfl
theorem scf : Statement .scf := of_bytes (0x37) rfl (n := 1) rfl rfl
theorem jrCE8 (e : Byte) : Statement (.jrCE8 e) := of_bytes (0x38) rfl (n := 2) rfl rfl
theorem addHLSP : Statement .addHLSP := of_bytes (0x39) rfl (n := 1) rfl rfl
theorem ldAMemHLDec : Statement .ldAMemHLDec := of_bytes (0x3A) rfl (n := 1) rfl rfl
theorem decSP : Statement .decSP := of_bytes (0x3B) rfl (n := 1) rfl rfl
theorem incA : Statement .incA := of_bytes (0x3C) rfl (n := 1) rfl rfl
theorem decA : Statement .decA := of_bytes (0x3D) rfl (n := 1) rfl rfl
theorem ldAN (n : Byte) : Statement (.ldAN n) := of_bytes (0x3E) rfl (n := 2) rfl rfl
theorem ccf : Statement .ccf := of_bytes (0x3F) rfl (n := 1) rfl rfl
theorem ldBB : Statement .ldBB := of_bytes (0x40) rfl (n := 1) rfl rfl
theorem ldBC : Statement .ldBC := of_bytes (0x41) rfl (n := 1) rfl rfl
theorem ldBD : Statement .ldBD := of_bytes (0x42) rfl (n := 1) rfl rfl
theorem ldBE : Statement .ldBE := of_bytes (0x43) rfl (n := 1) rfl rfl
theorem ldBH : Statement .ldBH := of_bytes (0x44) rfl (n := 1) rfl rfl
theorem ldBL : Statement .ldBL := of_bytes (0x45) rfl (n := 1) rfl rfl
theorem ldBMemHL : Statement .ldBMemHL := of_bytes (0x46) rfl (n := 1) rfl rfl
theorem ldBA : Statement .ldBA := of_bytes (0x47) rfl (n := 1) rfl rfl
theorem ldCB : Statement .ldCB := of_bytes (0x48) rfl (n := 1) rfl rfl
theorem ldCC : Statement .ldCC := of_bytes (0x49) rfl (n := 1) rfl rfl
theorem ldCD : Statement .ldCD := of_bytes (0x4A) rfl (n := 1) rfl rfl
theorem ldCE : Statement .ldCE := of_bytes (0x4B) rfl (n := 1) rfl rfl
theorem ldCH : Statement .ldCH := of_bytes (0x4C) rfl (n := 1) rfl rfl
theorem ldCL : Statement .ldCL := of_bytes (0x4D) rfl (n := 1) rfl rfl
theorem ldCMemHL : Statement .ldCMemHL := of_bytes (0x4E) rfl (n := 1) rfl rfl
theorem ldCA : Statement .ldCA := of_bytes (0x4F) rfl (n := 1) rfl rfl
theorem ldDB : Statement .ldDB := of_bytes (0x50) rfl (n := 1) rfl rfl
theorem ldDC : Statement .ldDC := of_bytes (0x51) rfl (n := 1) rfl rfl
theorem ldDD : Statement .ldDD := of_bytes (0x52) rfl (n := 1) rfl rfl
theorem ldDE : Statement .ldDE := of_bytes (0x53) rfl (n := 1) rfl rfl
theorem ldDH : Statement .ldDH := of_bytes (0x54) rfl (n := 1) rfl rfl
theorem ldDL : Statement .ldDL := of_bytes (0x55) rfl (n := 1) rfl rfl
theorem ldDMemHL : Statement .ldDMemHL := of_bytes (0x56) rfl (n := 1) rfl rfl
theorem ldDA : Statement .ldDA := of_bytes (0x57) rfl (n := 1) rfl rfl
theorem ldEB : Statement .ldEB := of_bytes (0x58) rfl (n := 1) rfl rfl
theorem ldEC : Statement .ldEC := of_bytes (0x59) rfl (n := 1) rfl rfl
theorem ldED : Statement .ldED := of_bytes (0x5A) rfl (n := 1) rfl rfl
theorem ldEE : Statement .ldEE := of_bytes (0x5B) rfl (n := 1) rfl rfl
theorem ldEH : Statement .ldEH := of_bytes (0x5C) rfl (n := 1) rfl rfl
theorem ldEL : Statement .ldEL := of_bytes (0x5D) rfl (n := 1) rfl rfl
theorem ldEMemHL : Statement .ldEMemHL := of_bytes (0x5E) rfl (n := 1) rfl rfl
theorem ldEA : Statement .ldEA := of_bytes (0x5F) rfl (n := 1) rfl rfl
theorem ldHB : Statement .ldHB := of_bytes (0x60) rfl (n := 1) rfl rfl
theorem ldHC : Statement .ldHC := of_bytes (0x61) rfl (n := 1) rfl rfl
theorem ldHD : Statement .ldHD := of_bytes (0x62) rfl (n := 1) rfl rfl
theorem ldHE : Statement .ldHE := of_bytes (0x63) rfl (n := 1) rfl rfl
theorem ldHH : Statement .ldHH := of_bytes (0x64) rfl (n := 1) rfl rfl
theorem ldHL : Statement .ldHL := of_bytes (0x65) rfl (n := 1) rfl rfl
theorem ldHMemHL : Statement .ldHMemHL := of_bytes (0x66) rfl (n := 1) rfl rfl
theorem ldHA : Statement .ldHA := of_bytes (0x67) rfl (n := 1) rfl rfl
theorem ldLB : Statement .ldLB := of_bytes (0x68) rfl (n := 1) rfl rfl
theorem ldLC : Statement .ldLC := of_bytes (0x69) rfl (n := 1) rfl rfl
theorem ldLD : Statement .ldLD := of_bytes (0x6A) rfl (n := 1) rfl rfl
theorem ldLE : Statement .ldLE := of_bytes (0x6B) rfl (n := 1) rfl rfl
theorem ldLH : Statement .ldLH := of_bytes (0x6C) rfl (n := 1) rfl rfl
theorem ldLL : Statement .ldLL := of_bytes (0x6D) rfl (n := 1) rfl rfl
theorem ldLMemHL : Statement .ldLMemHL := of_bytes (0x6E) rfl (n := 1) rfl rfl
theorem ldLA : Statement .ldLA := of_bytes (0x6F) rfl (n := 1) rfl rfl
theorem ldMemHLB : Statement .ldMemHLB := of_bytes (0x70) rfl (n := 1) rfl rfl
theorem ldMemHLC : Statement .ldMemHLC := of_bytes (0x71) rfl (n := 1) rfl rfl
theorem ldMemHLD : Statement .ldMemHLD := of_bytes (0x72) rfl (n := 1) rfl rfl
theorem ldMemHLE : Statement .ldMemHLE := of_bytes (0x73) rfl (n := 1) rfl rfl
theorem ldMemHLH : Statement .ldMemHLH := of_bytes (0x74) rfl (n := 1) rfl rfl
theorem ldMemHLL : Statement .ldMemHLL := of_bytes (0x75) rfl (n := 1) rfl rfl
theorem halt : Statement .halt := of_bytes (0x76) rfl (n := 1) rfl rfl
theorem ldMemHLA : Statement .ldMemHLA := of_bytes (0x77) rfl (n := 1) rfl rfl
theorem ldAB : Statement .ldAB := of_bytes (0x78) rfl (n := 1) rfl rfl
theorem ldAC : Statement .ldAC := of_bytes (0x79) rfl (n := 1) rfl rfl
theorem ldAD : Statement .ldAD := of_bytes (0x7A) rfl (n := 1) rfl rfl
theorem ldAE : Statement .ldAE := of_bytes (0x7B) rfl (n := 1) rfl rfl
theorem ldAH : Statement .ldAH := of_bytes (0x7C) rfl (n := 1) rfl rfl
theorem ldAL : Statement .ldAL := of_bytes (0x7D) rfl (n := 1) rfl rfl
theorem ldAMemHL : Statement .ldAMemHL := of_bytes (0x7E) rfl (n := 1) rfl rfl
theorem ldAA : Statement .ldAA := of_bytes (0x7F) rfl (n := 1) rfl rfl
theorem addAB : Statement .addAB := of_bytes (0x80) rfl (n := 1) rfl rfl
theorem addAC : Statement .addAC := of_bytes (0x81) rfl (n := 1) rfl rfl
theorem addAD : Statement .addAD := of_bytes (0x82) rfl (n := 1) rfl rfl
theorem addAE : Statement .addAE := of_bytes (0x83) rfl (n := 1) rfl rfl
theorem addAH : Statement .addAH := of_bytes (0x84) rfl (n := 1) rfl rfl
theorem addAL : Statement .addAL := of_bytes (0x85) rfl (n := 1) rfl rfl
theorem addAMemHL : Statement .addAMemHL := of_bytes (0x86) rfl (n := 1) rfl rfl
theorem addAA : Statement .addAA := of_bytes (0x87) rfl (n := 1) rfl rfl
theorem adcAB : Statement .adcAB := of_bytes (0x88) rfl (n := 1) rfl rfl
theorem adcAC : Statement .adcAC := of_bytes (0x89) rfl (n := 1) rfl rfl
theorem adcAD : Statement .adcAD := of_bytes (0x8A) rfl (n := 1) rfl rfl
theorem adcAE : Statement .adcAE := of_bytes (0x8B) rfl (n := 1) rfl rfl
theorem adcAH : Statement .adcAH := of_bytes (0x8C) rfl (n := 1) rfl rfl
theorem adcAL : Statement .adcAL := of_bytes (0x8D) rfl (n := 1) rfl rfl
theorem adcAMemHL : Statement .adcAMemHL := of_bytes (0x8E) rfl (n := 1) rfl rfl
theorem adcAA : Statement .adcAA := of_bytes (0x8F) rfl (n := 1) rfl rfl
theorem subB : Statement .subB := of_bytes (0x90) rfl (n := 1) rfl rfl
theorem subC : Statement .subC := of_bytes (0x91) rfl (n := 1) rfl rfl
theorem subD : Statement .subD := of_bytes (0x92) rfl (n := 1) rfl rfl
theorem subE : Statement .subE := of_bytes (0x93) rfl (n := 1) rfl rfl
theorem subH : Statement .subH := of_bytes (0x94) rfl (n := 1) rfl rfl
theorem subL : Statement .subL := of_bytes (0x95) rfl (n := 1) rfl rfl
theorem subMemHL : Statement .subMemHL := of_bytes (0x96) rfl (n := 1) rfl rfl
theorem subA : Statement .subA := of_bytes (0x97) rfl (n := 1) rfl rfl
theorem sbcAB : Statement .sbcAB := of_bytes (0x98) rfl (n := 1) rfl rfl
theorem sbcAC : Statement .sbcAC := of_bytes (0x99) rfl (n := 1) rfl rfl
theorem sbcAD : Statement .sbcAD := of_bytes (0x9A) rfl (n := 1) rfl rfl
theorem sbcAE : Statement .sbcAE := of_bytes (0x9B) rfl (n := 1) rfl rfl
theorem sbcAH : Statement .sbcAH := of_bytes (0x9C) rfl (n := 1) rfl rfl
theorem sbcAL : Statement .sbcAL := of_bytes (0x9D) rfl (n := 1) rfl rfl
theorem sbcAMemHL : Statement .sbcAMemHL := of_bytes (0x9E) rfl (n := 1) rfl rfl
theorem sbcAA : Statement .sbcAA := of_bytes (0x9F) rfl (n := 1) rfl rfl
theorem andB : Statement .andB := of_bytes (0xA0) rfl (n := 1) rfl rfl
theorem andC : Statement .andC := of_bytes (0xA1) rfl (n := 1) rfl rfl
theorem andD : Statement .andD := of_bytes (0xA2) rfl (n := 1) rfl rfl
theorem andE : Statement .andE := of_bytes (0xA3) rfl (n := 1) rfl rfl
theorem andH : Statement .andH := of_bytes (0xA4) rfl (n := 1) rfl rfl
theorem andL : Statement .andL := of_bytes (0xA5) rfl (n := 1) rfl rfl
theorem andMemHL : Statement .andMemHL := of_bytes (0xA6) rfl (n := 1) rfl rfl
theorem andA : Statement .andA := of_bytes (0xA7) rfl (n := 1) rfl rfl
theorem xorB : Statement .xorB := of_bytes (0xA8) rfl (n := 1) rfl rfl
theorem xorC : Statement .xorC := of_bytes (0xA9) rfl (n := 1) rfl rfl
theorem xorD : Statement .xorD := of_bytes (0xAA) rfl (n := 1) rfl rfl
theorem xorE : Statement .xorE := of_bytes (0xAB) rfl (n := 1) rfl rfl
theorem xorH : Statement .xorH := of_bytes (0xAC) rfl (n := 1) rfl rfl
theorem xorL : Statement .xorL := of_bytes (0xAD) rfl (n := 1) rfl rfl
theorem xorMemHL : Statement .xorMemHL := of_bytes (0xAE) rfl (n := 1) rfl rfl
theorem xorA : Statement .xorA := of_bytes (0xAF) rfl (n := 1) rfl rfl
theorem orB : Statement .orB := of_bytes (0xB0) rfl (n := 1) rfl rfl
theorem orC : Statement .orC := of_bytes (0xB1) rfl (n := 1) rfl rfl
theorem orD : Statement .orD := of_bytes (0xB2) rfl (n := 1) rfl rfl
theorem orE : Statement .orE := of_bytes (0xB3) rfl (n := 1) rfl rfl
theorem orH : Statement .orH := of_bytes (0xB4) rfl (n := 1) rfl rfl
theorem orL : Statement .orL := of_bytes (0xB5) rfl (n := 1) rfl rfl
theorem orMemHL : Statement .orMemHL := of_bytes (0xB6) rfl (n := 1) rfl rfl
theorem orA : Statement .orA := of_bytes (0xB7) rfl (n := 1) rfl rfl
theorem cpB : Statement .cpB := of_bytes (0xB8) rfl (n := 1) rfl rfl
theorem cpC : Statement .cpC := of_bytes (0xB9) rfl (n := 1) rfl rfl
theorem cpD : Statement .cpD := of_bytes (0xBA) rfl (n := 1) rfl rfl
theorem cpE : Statement .cpE := of_bytes (0xBB) rfl (n := 1) rfl rfl
theorem cpH : Statement .cpH := of_bytes (0xBC) rfl (n := 1) rfl rfl
theorem cpL : Statement .cpL := of_bytes (0xBD) rfl (n := 1) rfl rfl
theorem cpMemHL : Statement .cpMemHL := of_bytes (0xBE) rfl (n := 1) rfl rfl
theorem cpA : Statement .cpA := of_bytes (0xBF) rfl (n := 1) rfl rfl
theorem retNZ : Statement .retNZ := of_bytes (0xC0) rfl (n := 1) rfl rfl
theorem popBC : Statement .popBC := of_bytes (0xC1) rfl (n := 1) rfl rfl
theorem jpNZNn (nn : Word) : Statement (.jpNZNn nn) := of_bytes (0xC2) rfl (n := 3) rfl rfl
theorem jpNn (nn : Word) : Statement (.jpNn nn) := of_bytes (0xC3) rfl (n := 3) rfl rfl
theorem callNZNn (nn : Word) : Statement (.callNZNn nn) := of_bytes (0xC4) rfl (n := 3) rfl rfl
theorem pushBC : Statement .pushBC := of_bytes (0xC5) rfl (n := 1) rfl rfl
theorem addAN (n : Byte) : Statement (.addAN n) := of_bytes (0xC6) rfl (n := 2) rfl rfl
theorem rst00 : Statement .rst00 := of_bytes (0xC7) rfl (n := 1) rfl rfl
theorem retZ : Statement .retZ := of_bytes (0xC8) rfl (n := 1) rfl rfl
theorem ret : Statement .ret := of_bytes (0xC9) rfl (n := 1) rfl rfl
theorem jpZNn (nn : Word) : Statement (.jpZNn nn) := of_bytes (0xCA) rfl (n := 3) rfl rfl
theorem prefixCb : Statement .prefixCb := fun h => absurd rfl h
theorem callZNn (nn : Word) : Statement (.callZNn nn) := of_bytes (0xCC) rfl (n := 3) rfl rfl
theorem callNn (nn : Word) : Statement (.callNn nn) := of_bytes (0xCD) rfl (n := 3) rfl rfl
theorem adcAN (n : Byte) : Statement (.adcAN n) := of_bytes (0xCE) rfl (n := 2) rfl rfl
theorem rst08 : Statement .rst08 := of_bytes (0xCF) rfl (n := 1) rfl rfl
theorem retNC : Statement .retNC := of_bytes (0xD0) rfl (n := 1) rfl rfl
theorem popDE : Statement .popDE := of_bytes (0xD1) rfl (n := 1) rfl rfl
theorem jpNCNn (nn : Word) : Statement (.jpNCNn nn) := of_bytes (0xD2) rfl (n := 3) rfl rfl
theorem illegalD3 : Statement .illegalD3 := of_bytes (0xD3) rfl (n := 1) rfl rfl
theorem callNCNn (nn : Word) : Statement (.callNCNn nn) := of_bytes (0xD4) rfl (n := 3) rfl rfl
theorem pushDE : Statement .pushDE := of_bytes (0xD5) rfl (n := 1) rfl rfl
theorem subN (n : Byte) : Statement (.subN n) := of_bytes (0xD6) rfl (n := 2) rfl rfl
theorem rst10 : Statement .rst10 := of_bytes (0xD7) rfl (n := 1) rfl rfl
theorem retC : Statement .retC := of_bytes (0xD8) rfl (n := 1) rfl rfl
theorem reti : Statement .reti := of_bytes (0xD9) rfl (n := 1) rfl rfl
theorem jpCNn (nn : Word) : Statement (.jpCNn nn) := of_bytes (0xDA) rfl (n := 3) rfl rfl
theorem illegalDB : Statement .illegalDB := of_bytes (0xDB) rfl (n := 1) rfl rfl
theorem callCNn (nn : Word) : Statement (.callCNn nn) := of_bytes (0xDC) rfl (n := 3) rfl rfl
theorem illegalDD : Statement .illegalDD := of_bytes (0xDD) rfl (n := 1) rfl rfl
theorem sbcAN (n : Byte) : Statement (.sbcAN n) := of_bytes (0xDE) rfl (n := 2) rfl rfl
theorem rst18 : Statement .rst18 := of_bytes (0xDF) rfl (n := 1) rfl rfl
theorem ldhMemNA (n : Byte) : Statement (.ldhMemNA n) := of_bytes (0xE0) rfl (n := 2) rfl rfl
theorem popHL : Statement .popHL := of_bytes (0xE1) rfl (n := 1) rfl rfl
theorem ldMemCA : Statement .ldMemCA := of_bytes (0xE2) rfl (n := 1) rfl rfl
theorem illegalE3 : Statement .illegalE3 := of_bytes (0xE3) rfl (n := 1) rfl rfl
theorem illegalE4 : Statement .illegalE4 := of_bytes (0xE4) rfl (n := 1) rfl rfl
theorem pushHL : Statement .pushHL := of_bytes (0xE5) rfl (n := 1) rfl rfl
theorem andN (n : Byte) : Statement (.andN n) := of_bytes (0xE6) rfl (n := 2) rfl rfl
theorem rst20 : Statement .rst20 := of_bytes (0xE7) rfl (n := 1) rfl rfl
theorem addSPE8 (e : Byte) : Statement (.addSPE8 e) := of_bytes (0xE8) rfl (n := 2) rfl rfl
theorem jpHL : Statement .jpHL := of_bytes (0xE9) rfl (n := 1) rfl rfl
theorem ldMemNnA (nn : Word) : Statement (.ldMemNnA nn) := of_bytes (0xEA) rfl (n := 3) rfl rfl
theorem illegalEB : Statement .illegalEB := of_bytes (0xEB) rfl (n := 1) rfl rfl
theorem illegalEC : Statement .illegalEC := of_bytes (0xEC) rfl (n := 1) rfl rfl
theorem illegalED : Statement .illegalED := of_bytes (0xED) rfl (n := 1) rfl rfl
theorem xorN (n : Byte) : Statement (.xorN n) := of_bytes (0xEE) rfl (n := 2) rfl rfl
theorem rst28 : Statement .rst28 := of_bytes (0xEF) rfl (n := 1) rfl rfl
theorem ldhAMemN (n : Byte) : Statement (.ldhAMemN n) := of_bytes (0xF0) rfl (n := 2) rfl rfl
theorem popAF : Statement .popAF := of_bytes (0xF1) rfl (n := 1) rfl rfl
theorem ldAMemC : Statement .ldAMemC := of_bytes (0xF2) rfl (n := 1) rfl rfl
theorem di : Statement .di := of_bytes (0xF3) rfl (n := 1) rfl rfl
theorem illegalF4 : Statement .illegalF4 := of_bytes (0xF4) rfl (n := 1) rfl rfl
theorem pushAF : Statement .pushAF := of_bytes (0xF5) rfl (n := 1) rfl rfl
theorem orN (n : Byte) : Statement (.orN n) := of_bytes (0xF6) rfl (n := 2) rfl rfl
theorem rst30 : Statement .rst30 := of_bytes (0xF7) rfl (n := 1) rfl rfl
theorem ldHLSPE8 (e : Byte) : Statement (.ldHLSPE8 e) := of_bytes (0xF8) rfl (n := 2) rfl rfl
theorem ldSPHL : Statement .ldSPHL := of_bytes (0xF9) rfl (n := 1) rfl rfl
theorem ldAMemNn (nn : Word) : Statement (.ldAMemNn nn) := of_bytes (0xFA) rfl (n := 3) rfl rfl
theorem ei : Statement .ei := of_bytes (0xFB) rfl (n := 1) rfl rfl
theorem illegalFC : Statement .illegalFC := of_bytes (0xFC) rfl (n := 1) rfl rfl
theorem illegalFD : Statement .illegalFD := of_bytes (0xFD) rfl (n := 1) rfl rfl
theorem cpN (n : Byte) : Statement (.cpN n) := of_bytes (0xFE) rfl (n := 2) rfl rfl
theorem rst38 : Statement .rst38 := of_bytes (0xFF) rfl (n := 1) rfl rfl
theorem rlcB : Statement .rlcB := of_bytes (0xCB) rfl rfl two
theorem rlcC : Statement .rlcC := of_bytes (0xCB) rfl rfl two
theorem rlcD : Statement .rlcD := of_bytes (0xCB) rfl rfl two
theorem rlcE : Statement .rlcE := of_bytes (0xCB) rfl rfl two
theorem rlcH : Statement .rlcH := of_bytes (0xCB) rfl rfl two
theorem rlcL : Statement .rlcL := of_bytes (0xCB) rfl rfl two
theorem rlcMemHL : Statement .rlcMemHL := of_bytes (0xCB) rfl rfl two
theorem rlcA : Statement .rlcA := of_bytes (0xCB) rfl rfl two
theorem rrcB : Statement .rrcB := of_bytes (0xCB) rfl rfl two
theorem rrcC : Statement .rrcC := of_bytes (0xCB) rfl rfl two
theorem rrcD : Statement .rrcD := of_bytes (0xCB) rfl rfl two
theorem rrcE : Statement .rrcE := of_bytes (0xCB) rfl rfl two
theorem rrcH : Statement .rrcH := of_bytes (0xCB) rfl rfl two
theorem rrcL : Statement .rrcL := of_bytes (0xCB) rfl rfl two
theorem rrcMemHL : Statement .rrcMemHL := of_bytes (0xCB) rfl rfl two
theorem rrcA : Statement .rrcA := of_bytes (0xCB) rfl rfl two
theorem rlB : Statement .rlB := of_bytes (0xCB) rfl rfl two
theorem rlC : Statement .rlC := of_bytes (0xCB) rfl rfl two
theorem rlD : Statement .rlD := of_bytes (0xCB) rfl rfl two
theorem rlE : Statement .rlE := of_bytes (0xCB) rfl rfl two
theorem rlH : Statement .rlH := of_bytes (0xCB) rfl rfl two
theorem rlL : Statement .rlL := of_bytes (0xCB) rfl rfl two
theorem rlMemHL : Statement .rlMemHL := of_bytes (0xCB) rfl rfl two
theorem rlA : Statement .rlA := of_bytes (0xCB) rfl rfl two
theorem rrB : Statement .rrB := of_bytes (0xCB) rfl rfl two
theorem rrC : Statement .rrC := of_bytes (0xCB) rfl rfl two
theorem rrD : Statement .rrD := of_bytes (0xCB) rfl rfl two
theorem rrE : Statement .rrE := of_bytes (0xCB) rfl rfl two
theorem rrH : Statement .rrH := of_bytes (0xCB) rfl rfl two
theorem rrL : Statement .rrL := of_bytes (0xCB) rfl rfl two
theorem rrMemHL : Statement .rrMemHL := of_bytes (0xCB) rfl rfl two
theorem rrA : Statement .rrA := of_bytes (0xCB) rfl rfl two
theorem slaB : Statement .slaB := of_bytes (0xCB) rfl rfl two
theorem slaC : Statement .slaC := of_bytes (0xCB) rfl rfl two
theorem slaD : Statement .slaD := of_bytes (0xCB) rfl rfl two
theorem slaE : Statement .slaE := of_bytes (0xCB) rfl rfl two
theorem slaH : Statement .slaH := of_bytes (0xCB) rfl rfl two
theorem slaL : Statement .slaL := of_bytes (0xCB) rfl rfl two
theorem slaMemHL : Statement .slaMemHL := of_bytes (0xCB) rfl rfl two
theorem slaA : Statement .slaA := of_bytes (0xCB) rfl rfl two
theorem sraB : Statement .sraB := of_bytes (0xCB) rfl rfl two
theorem sraC : Statement .sraC := of_bytes (0xCB) rfl rfl two
theorem sraD : Statement .sraD := of_bytes (0xCB) rfl rfl two
theorem sraE : Statement .sraE := of_bytes (0xCB) rfl rfl two
theorem sraH : Statement .sraH := of_bytes (0xCB) rfl rfl two
theorem sraL : Statement .sraL := of_bytes (0xCB) rfl rfl two
theorem sraMemHL : Statement .sraMemHL := of_bytes (0xCB) rfl rfl two
theorem sraA : Statement .sraA := of_bytes (0xCB) rfl rfl two
theorem swapB : Statement .swapB := of_bytes (0xCB) rfl rfl two
theorem swapC : Statement .swapC := of_bytes (0xCB) rfl rfl two
theorem swapD : Statement .swapD := of_bytes (0xCB) rfl rfl two
theorem swapE : Statement .swapE := of_bytes (0xCB) rfl rfl two
theorem swapH : Statement .swapH := of_bytes (0xCB) rfl rfl two
theorem swapL : Statement .swapL := of_bytes (0xCB) rfl rfl two
theorem swapMemHL : Statement .swapMemHL := of_bytes (0xCB) rfl rfl two
theorem swapA : Statement .swapA := of_bytes (0xCB) rfl rfl two
theorem srlB : Statement .srlB := of_bytes (0xCB) rfl rfl two
theorem srlC : Statement .srlC := of_bytes (0xCB) rfl rfl two
theorem srlD : Statement .srlD := of_bytes (0xCB) rfl rfl two
theorem srlE : Statement .srlE := of_bytes (0xCB) rfl rfl two
theorem srlH : Statement .srlH := of_bytes (0xCB) rfl rfl two
theorem srlL : Statement .srlL := of_bytes (0xCB) rfl rfl two
theorem srlMemHL : Statement .srlMemHL := of_bytes (0xCB) rfl rfl two
theorem srlA : Statement .srlA := of_bytes (0xCB) rfl rfl two
theorem bit0B : Statement .bit0B := of_bytes (0xCB) rfl rfl two
theorem bit0C : Statement .bit0C := of_bytes (0xCB) rfl rfl two
theorem bit0D : Statement .bit0D := of_bytes (0xCB) rfl rfl two
theorem bit0E : Statement .bit0E := of_bytes (0xCB) rfl rfl two
theorem bit0H : Statement .bit0H := of_bytes (0xCB) rfl rfl two
theorem bit0L : Statement .bit0L := of_bytes (0xCB) rfl rfl two
theorem bit0MemHL : Statement .bit0MemHL := of_bytes (0xCB) rfl rfl two
theorem bit0A : Statement .bit0A := of_bytes (0xCB) rfl rfl two
theorem bit1B : Statement .bit1B := of_bytes (0xCB) rfl rfl two
theorem bit1C : Statement .bit1C := of_bytes (0xCB) rfl rfl two
theorem bit1D : Statement .bit1D := of_bytes (0xCB) rfl rfl two
theorem bit1E : Statement .bit1E := of_bytes (0xCB) rfl rfl two
theorem bit1H : Statement .bit1H := of_bytes (0xCB) rfl rfl two
theorem bit1L : Statement .bit1L := of_bytes (0xCB) rfl rfl two
theorem bit1MemHL : Statement .bit1MemHL := of_bytes (0xCB) rfl rfl two
theorem bit1A : Statement .bit1A := of_bytes (0xCB) rfl rfl two
theorem bit2B : Statement .bit2B := of_bytes (0xCB) rfl rfl two
theorem bit2C : Statement .bit2C := of_bytes (0xCB) rfl rfl two
theorem bit2D : Statement .bit2D := of_bytes (0xCB) rfl rfl two
theorem bit2E : Statement .bit2E := of_bytes (0xCB) rfl rfl two
theorem bit2H : Statement .bit2H := of_bytes (0xCB) rfl rfl two
theorem bit2L : Statement .bit2L := of_bytes (0xCB) rfl rfl two
theorem bit2MemHL : Statement .bit2MemHL := of_bytes (0xCB) rfl rfl two
theorem bit2A : Statement .bit2A := of_bytes (0xCB) rfl rfl two
theorem bit3B : Statement .bit3B := of_bytes (0xCB) rfl rfl two
theorem bit3C : Statement .bit3C := of_bytes (0xCB) rfl rfl two
theorem bit3D : Statement .bit3D := of_bytes (0xCB) rfl rfl two
theorem bit3E : Statement .bit3E := of_bytes (0xCB) rfl rfl two
theorem bit3H : Statement .bit3H := of_bytes (0xCB) rfl rfl two
theorem bit3L : Statement .bit3L := of_bytes (0xCB) rfl rfl two
theorem bit3MemHL : Statement .bit3MemHL := of_bytes (0xCB) rfl rfl two
theorem bit3A : Statement .bit3A := of_bytes (0xCB) rfl rfl two
theorem bit4B : Statement .bit4B := of_bytes (0xCB) rfl rfl two
theorem bit4C : Statement .bit4C := of_bytes (0xCB) rfl rfl two
theorem bit4D : Statement .bit4D := of_bytes (0xCB) rfl rfl two
theorem bit4E : Statement .bit4E := of_bytes (0xCB) rfl rfl two
theorem bit4H : Statement .bit4H := of_bytes (0xCB) rfl rfl two
theorem bit4L : Statement .bit4L := of_bytes (0xCB) rfl rfl two
theorem bit4MemHL : Statement .bit4MemHL := of_bytes (0xCB) rfl rfl two
theorem bit4A : Statement .bit4A := of_bytes (0xCB) rfl rfl two
theorem bit5B : Statement .bit5B := of_bytes (0xCB) rfl rfl two
theorem bit5C : Statement .bit5C := of_bytes (0xCB) rfl rfl two
theorem bit5D : Statement .bit5D := of_bytes (0xCB) rfl rfl two
theorem bit5E : Statement .bit5E := of_bytes (0xCB) rfl rfl two
theorem bit5H : Statement .bit5H := of_bytes (0xCB) rfl rfl two
theorem bit5L : Statement .bit5L := of_bytes (0xCB) rfl rfl two
theorem bit5MemHL : Statement .bit5MemHL := of_bytes (0xCB) rfl rfl two
theorem bit5A : Statement .bit5A := of_bytes (0xCB) rfl rfl two
theorem bit6B : Statement .bit6B := of_bytes (0xCB) rfl rfl two
theorem bit6C : Statement .bit6C := of_bytes (0xCB) rfl rfl two
theorem bit6D : Statement .bit6D := of_bytes (0xCB) rfl rfl two
theorem bit6E : Statement .bit6E := of_bytes (0xCB) rfl rfl two
theorem bit6H : Statement .bit6H := of_bytes (0xCB) rfl rfl two
theorem bit6L : Statement .bit6L := of_bytes (0xCB) rfl rfl two
theorem bit6MemHL : Statement .bit6MemHL := of_bytes (0xCB) rfl rfl two
theorem bit6A : Statement .bit6A := of_bytes (0xCB) rfl rfl two
theorem bit7B : Statement .bit7B := of_bytes (0xCB) rfl rfl two
theorem bit7C : Statement .bit7C := of_bytes (0xCB) rfl rfl two
theorem bit7D : Statement .bit7D := of_bytes (0xCB) rfl rfl two
theorem bit7E : Statement .bit7E := of_bytes (0xCB) rfl rfl two
theorem bit7H : Statement .bit7H := of_bytes (0xCB) rfl rfl two
theorem bit7L : Statement .bit7L := of_bytes (0xCB) rfl rfl two
theorem bit7MemHL : Statement .bit7MemHL := of_bytes (0xCB) rfl rfl two
theorem bit7A : Statement .bit7A := of_bytes (0xCB) rfl rfl two
theorem res0B : Statement .res0B := of_bytes (0xCB) rfl rfl two
theorem res0C : Statement .res0C := of_bytes (0xCB) rfl rfl two
theorem res0D : Statement .res0D := of_bytes (0xCB) rfl rfl two
theorem res0E : Statement .res0E := of_bytes (0xCB) rfl rfl two
theorem res0H : Statement .res0H := of_bytes (0xCB) rfl rfl two
theorem res0L : Statement .res0L := of_bytes (0xCB) rfl rfl two
theorem res0MemHL : Statement .res0MemHL := of_bytes (0xCB) rfl rfl two
theorem res0A : Statement .res0A := of_bytes (0xCB) rfl rfl two
theorem res1B : Statement .res1B := of_bytes (0xCB) rfl rfl two
theorem res1C : Statement .res1C := of_bytes (0xCB) rfl rfl two
theorem res1D : Statement .res1D := of_bytes (0xCB) rfl rfl two
theorem res1E : Statement .res1E := of_bytes (0xCB) rfl rfl two
theorem res1H : Statement .res1H := of_bytes (0xCB) rfl rfl two
theorem res1L : Statement .res1L := of_bytes (0xCB) rfl rfl two
theorem res1MemHL : Statement .res1MemHL := of_bytes (0xCB) rfl rfl two
theorem res1A : Statement .res1A := of_bytes (0xCB) rfl rfl two
theorem res2B : Statement .res2B := of_bytes (0xCB) rfl rfl two
theorem res2C : Statement .res2C := of_bytes (0xCB) rfl rfl two
theorem res2D : Statement .res2D := of_bytes (0xCB) rfl rfl two
theorem res2E : Statement .res2E := of_bytes (0xCB) rfl rfl two
theorem res2H : Statement .res2H := of_bytes (0xCB) rfl rfl two
theorem res2L : Statement .res2L := of_bytes (0xCB) rfl rfl two
theorem res2MemHL : Statement .res2MemHL := of_bytes (0xCB) rfl rfl two
theorem res2A : Statement .res2A := of_bytes (0xCB) rfl rfl two
theorem res3B : Statement .res3B := of_bytes (0xCB) rfl rfl two
theorem res3C : Statement .res3C := of_bytes (0xCB) rfl rfl two
theorem res3D : Statement .res3D := of_bytes (0xCB) rfl rfl two
theorem res3E : Statement .res3E := of_bytes (0xCB) rfl rfl two
theorem res3H : Statement .res3H := of_bytes (0xCB) rfl rfl two
theorem res3L : Statement .res3L := of_bytes (0xCB) rfl rfl two
theorem res3MemHL : Statement .res3MemHL := of_bytes (0xCB) rfl rfl two
theorem res3A : Statement .res3A := of_bytes (0xCB) rfl rfl two
theorem res4B : Statement .res4B := of_bytes (0xCB) rfl rfl two
theorem res4C : Statement .res4C := of_bytes (0xCB) rfl rfl two
theorem res4D : Statement .res4D := of_bytes (0xCB) rfl rfl two
theorem res4E : Statement .res4E := of_bytes (0xCB) rfl rfl two
theorem res4H : Statement .res4H := of_bytes (0xCB) rfl rfl two
theorem res4L : Statement .res4L := of_bytes (0xCB) rfl rfl two
theorem res4MemHL : Statement .res4MemHL := of_bytes (0xCB) rfl rfl two
theorem res4A : Statement .res4A := of_bytes (0xCB) rfl rfl two
theorem res5B : Statement .res5B := of_bytes (0xCB) rfl rfl two
theorem res5C : Statement .res5C := of_bytes (0xCB) rfl rfl two
theorem res5D : Statement .res5D := of_bytes (0xCB) rfl rfl two
theorem res5E : Statement .res5E := of_bytes (0xCB) rfl rfl two
theorem res5H : Statement .res5H := of_bytes (0xCB) rfl rfl two
theorem res5L : Statement .res5L := of_bytes (0xCB) rfl rfl two
theorem res5MemHL : Statement .res5MemHL := of_bytes (0xCB) rfl rfl two
theorem res5A : Statement .res5A := of_bytes (0xCB) rfl rfl two
theorem res6B : Statement .res6B := of_bytes (0xCB) rfl rfl two
theorem res6C : Statement .res6C := of_bytes (0xCB) rfl rfl two
theorem res6D : Statement .res6D := of_bytes (0xCB) rfl rfl two
theorem res6E : Statement .res6E := of_bytes (0xCB) rfl rfl two
theorem res6H : Statement .res6H := of_bytes (0xCB) rfl rfl two
theorem res6L : Statement .res6L := of_bytes (0xCB) rfl rfl two
theorem res6MemHL : Statement .res6MemHL := of_bytes (0xCB) rfl rfl two
theorem res6A : Statement .res6A := of_bytes (0xCB) rfl rfl two
theorem res7B : Statement .res7B := of_bytes (0xCB) rfl rfl two
theorem res7C : Statement .res7C := of_bytes (0xCB) rfl rfl two
theorem res7D : Statement .res7D := of_bytes (0xCB) rfl rfl two
theorem res7E : Statement .res7E := of_bytes (0xCB) rfl rfl two
theorem res7H : Statement .res7H := of_bytes (0xCB) rfl rfl two
theorem res7L : Statement .res7L := of_bytes (0xCB) rfl rfl two
theorem res7MemHL : Statement .res7MemHL := of_bytes (0xCB) rfl rfl two
theorem res7A : Statement .res7A := of_bytes (0xCB) rfl rfl two
theorem set0B : Statement .set0B := of_bytes (0xCB) rfl rfl two
theorem set0C : Statement .set0C := of_bytes (0xCB) rfl rfl two
theorem set0D : Statement .set0D := of_bytes (0xCB) rfl rfl two
theorem set0E : Statement .set0E := of_bytes (0xCB) rfl rfl two
theorem set0H : Statement .set0H := of_bytes (0xCB) rfl rfl two
theorem set0L : Statement .set0L := of_bytes (0xCB) rfl rfl two
theorem set0MemHL : Statement .set0MemHL := of_bytes (0xCB) rfl rfl two
theorem set0A : Statement .set0A := of_bytes (0xCB) rfl rfl two
theorem set1B : Statement .set1B := of_bytes (0xCB) rfl rfl two
theorem set1C : Statement .set1C := of_bytes (0xCB) rfl rfl two
theorem set1D : Statement .set1D := of_bytes (0xCB) rfl rfl two
theorem set1E : Statement .set1E := of_bytes (0xCB) rfl rfl two
theorem set1H : Statement .set1H := of_bytes (0xCB) rfl rfl two
theorem set1L : Statement .set1L := of_bytes (0xCB) rfl rfl two
theorem set1MemHL : Statement .set1MemHL := of_bytes (0xCB) rfl rfl two
theorem set1A : Statement .set1A := of_bytes (0xCB) rfl rfl two
theorem set2B : Statement .set2B := of_bytes (0xCB) rfl rfl two
theorem set2C : Statement .set2C := of_bytes (0xCB) rfl rfl two
theorem set2D : Statement .set2D := of_bytes (0xCB) rfl rfl two
theorem set2E : Statement .set2E := of_bytes (0xCB) rfl rfl two
theorem set2H : Statement .set2H := of_bytes (0xCB) rfl rfl two
theorem set2L : Statement .set2L := of_bytes (0xCB) rfl rfl two
theorem set2MemHL : Statement .set2MemHL := of_bytes (0xCB) rfl rfl two
theorem set2A : Statement .set2A := of_bytes (0xCB) rfl rfl two
theorem set3B : Statement .set3B := of_bytes (0xCB) rfl rfl two
theorem set3C : Statement .set3C := of_bytes (0xCB) rfl rfl two
theorem set3D : Statement .set3D := of_bytes (0xCB) rfl rfl two
theorem set3E : Statement .set3E := of_bytes (0xCB) rfl rfl two
theorem set3H : Statement .set3H := of_bytes (0xCB) rfl rfl two
theorem set3L : Statement .set3L := of_bytes (0xCB) rfl rfl two
theorem set3MemHL : Statement .set3MemHL := of_bytes (0xCB) rfl rfl two
theorem set3A : Statement .set3A := of_bytes (0xCB) rfl rfl two
theorem set4B : Statement .set4B := of_bytes (0xCB) rfl rfl two
theorem set4C : Statement .set4C := of_bytes (0xCB) rfl rfl two
theorem set4D : Statement .set4D := of_bytes (0xCB) rfl rfl two
theorem set4E : Statement .set4E := of_bytes (0xCB) rfl rfl two
theorem set4H : Statement .set4H := of_bytes (0xCB) rfl rfl two
theorem set4L : Statement .set4L := of_bytes (0xCB) rfl rfl two
theorem set4MemHL : Statement .set4MemHL := of_bytes (0xCB) rfl rfl two
theorem set4A : Statement .set4A := of_bytes (0xCB) rfl rfl two
theorem set5B : Statement .set5B := of_bytes (0xCB) rfl rfl two
theorem set5C : Statement .set5C := of_bytes (0xCB) rfl rfl two
theorem set5D : Statement .set5D := of_bytes (0xCB) rfl rfl two
theorem set5E : Statement .set5E := of_bytes (0xCB) rfl rfl two
theorem set5H : Statement .set5H := of_bytes (0xCB) rfl rfl two
theorem set5L : Statement .set5L := of_bytes (0xCB) rfl rfl two
theorem set5MemHL : Statement .set5MemHL := of_bytes (0xCB) rfl rfl two
theorem set5A : Statement .set5A := of_bytes (0xCB) rfl rfl two
theorem set6B : Statement .set6B := of_bytes (0xCB) rfl rfl two
theorem set6C : Statement .set6C := of_bytes (0xCB) rfl rfl two
theorem set6D : Statement .set6D := of_bytes (0xCB) rfl rfl two
theorem set6E : Statement .set6E := of_bytes (0xCB) rfl rfl two
theorem set6H : Statement .set6H := of_bytes (0xCB) rfl rfl two
theorem set6L : Statement .set6L := of_bytes (0xCB) rfl rfl two
theorem set6MemHL : Statement .set6MemHL := of_bytes (0xCB) rfl rfl two
theorem set6A : Statement .set6A := of_bytes (0xCB) rfl rfl two
theorem set7B : Statement .set7B := of_bytes (0xCB) rfl rfl two
theorem set7C : Statement .set7C := of_bytes (0xCB) rfl rfl two
theorem set7D : Statement .set7D := of_bytes (0xCB) rfl rfl two
theorem set7E : Statement .set7E := of_bytes (0xCB) rfl rfl two
theorem set7H : Statement .set7H := of_bytes (0xCB) rfl rfl two
theorem set7L : Statement .set7L := of_bytes (0xCB) rfl rfl two
theorem set7MemHL : Statement .set7MemHL := of_bytes (0xCB) rfl rfl two
theorem set7A : Statement .set7A := of_bytes (0xCB) rfl rfl two

end Sys2Proof.Laws.Encoding
end

