-- ==== Sys2Proof/Tests/Slice0.lean ====
section
/-! SUPPORT. The tests: the well-formedness check, a word of every row of the opcode table, steps with the expected values
of the spec's test vectors, and for each statement with hypotheses a witness that meets them. -/

namespace Sys2Proof.Tests

open Sys2Proof.Machine

set_option maxRecDepth 100000

/-! ## Helpers -/

/-- Bytes placed in the storage from an address on. -/
def placed (a : Word) : List Byte → State → State
  | [], s => s
  | v :: rest, s => placed (a + 1) rest (pokeByte a v s)

/-- A view of the state after one step, where there is one. -/
def after {α : Type} (s : State) (view : State → α) : Option α :=
  match step s with
  | .next t => some (view t)
  | .fault _ => none
  | .refused _ => none

/-- The instruction read from a list of bytes, all of which it takes. -/
def decodeAll (bytes : List Byte) : Option Instr :=
  match decode bytes with
  | .ok (i, []) => some i
  | .ok (_, _ :: _) => none
  | .error _ => none

/-- The parameters with another `EXT_RAM_SIZE`. -/
def withExtRam (n : Nat) : Config := { extRamSize := n }

/-- The parameters with `INTERRUPT_DISPATCH = false`. -/
def noDispatch : Config := { interruptDispatch := false }

/-! ## Well-formedness, the host's words, the launch -/

/-- The one term that is no instruction is refused, and the instruction its bytes belong to is not. -/
theorem test_wf_refuses_the_prefix_alone : ¬ Instr.prefixCb.WellFormed ∧ Instr.rlcB.WellFormed := by decide

/-- A term with operands at the ends of their range is well formed. -/
theorem test_wf_admits_operands : (Instr.ldBCNn 0xFFFF).WellFormed ∧ (Instr.ldBN 0x00).WellFormed := by decide

/-- Each way decoding rejects, by name. -/
theorem test_decode_rejects_short_input :
    [[], [0x06], [0xC3, 0x12], [0xCB]].map decode =
      [.error .empty, .error (.truncated 0x06), .error (.truncated 0xC3), .error (.truncated 0xCB)] := by decide

/-- A table row of 16 bits has the prefix byte high; a row of 8 bits is its opcode byte, its operand bytes 0
(30_encoding.md R144). -/
theorem test_decodeTableWord :
    [decodeTableWord 16 0xCB7C, decodeTableWord 8 0x01, decodeTableWord 8 0xCB, decodeTableWord 16 0x5A16] =
      [some .bit7H, some (.ldBCNn 0), some .rlcB, some (.ldDN 0x5A)] := by decide

/-- The word placed for the next step is the one that step runs: SET 0,D from reset. -/
theorem test_withFetchWord_runs : after (State.reset.withFetchWord 16 0xCBC2) (fun t => (t.d, t.pc)) = some (1, 2) := by
  decide

/-- V235, V236, V237: the launch refuses a short image and an initial bank outside the image. -/
theorem test_launch_refuses :
    (launch {} (List.replicate 0x7FFF 0)).isNone ∧ (launch {} (List.replicate 0x8000 0)).isSome ∧
      (launch { initialRomBank := 2 } (List.replicate 0x8000 0)).isNone ∧
      (launch { initialRomBank := 2 } (List.replicate 0xC000 0)).isSome := by
  refine ⟨?_, ?_, ?_, ?_⟩ <;> unfold launch <;> rw [List.length_replicate] <;> rfl

/-- V239 to V246: the kinds of the header bytes at the ends of their ranges. -/
theorem test_classify :
    [0x00, 0x04, 0x14, 0x1F].map classify = [.noMbc, .noMbc, .noMbc, .noMbc] ∧
      [0x01, 0x03, 0x05, 0x06].map classify = [.mbc1, .mbc1, .mbc2, .mbc2] ∧
      [0x0F, 0x13, 0x19, 0x1E].map classify = [.mbc3, .mbc3, .mbc5, .mbc5] := by decide

/-- V249: `reset()` of a halted machine clears the engine and keeps IE. -/
theorem test_reset_of_a_halted_machine :
    (hostMove .reset { State.reset with halted := true, ime := true, a := 5, ie := 4, ramBank := 2 }).map
      (fun t => (t.halted, t.ime, t.a, t.ie, t.ramBank)) = some (false, false, 0, 4, 2) := by decide

/-! ## Decoding: one word of every row of the opcode table, its bits from the table, operands 0x12 and 0x34 -/

theorem test_decode_primary_0 :
    [
      [0x00], [0x01, 0x34, 0x12], [0x02], [0x03], [0x04], [0x05], [0x06, 0x12], [0x07], [0x08, 0x34, 0x12], [0x09],
      [0x0A], [0x0B], [0x0C], [0x0D], [0x0E, 0x12], [0x0F]].map decodeAll = [
      .nop, .ldBCNn 0x1234, .ldMemBCA, .incBC, .incB, .decB, .ldBN 0x12, .rlca, .ldMemNnSP 0x1234, .addHLBC,
      .ldAMemBC, .decBC, .incC, .decC, .ldCN 0x12, .rrca].map some := by
  rfl

theorem test_decode_primary_1 :
    [
      [0x10], [0x11, 0x34, 0x12], [0x12], [0x13], [0x14], [0x15], [0x16, 0x12], [0x17], [0x18, 0x12], [0x19],
      [0x1A], [0x1B], [0x1C], [0x1D], [0x1E, 0x12], [0x1F]].map decodeAll = [
      .stop, .ldDENn 0x1234, .ldMemDEA, .incDE, .incD, .decD, .ldDN 0x12, .rla, .jrE8 0x12, .addHLDE, .ldAMemDE,
      .decDE, .incE, .decE, .ldEN 0x12, .rra].map some := by
  rfl

theorem test_decode_primary_2 :
    [
      [0x20, 0x12], [0x21, 0x34, 0x12], [0x22], [0x23], [0x24], [0x25], [0x26, 0x12], [0x27], [0x28, 0x12], [0x29],
      [0x2A], [0x2B], [0x2C], [0x2D], [0x2E, 0x12], [0x2F]].map decodeAll = [
      .jrNZE8 0x12, .ldHLNn 0x1234, .ldMemHLIncA, .incHL, .incH, .decH, .ldHN 0x12, .daa, .jrZE8 0x12, .addHLHL,
      .ldAMemHLInc, .decHL, .incL, .decL, .ldLN 0x12, .cpl].map some := by
  rfl

theorem test_decode_primary_3 :
    [
      [0x30, 0x12], [0x31, 0x34, 0x12], [0x32], [0x33], [0x34], [0x35], [0x36, 0x12], [0x37], [0x38, 0x12], [0x39],
      [0x3A], [0x3B], [0x3C], [0x3D], [0x3E, 0x12], [0x3F]].map decodeAll = [
      .jrNCE8 0x12, .ldSPNn 0x1234, .ldMemHLDecA, .incSP, .incMemHL, .decMemHL, .ldMemHLN 0x12, .scf, .jrCE8 0x12,
      .addHLSP, .ldAMemHLDec, .decSP, .incA, .decA, .ldAN 0x12, .ccf].map some := by
  rfl

theorem test_decode_primary_4 :
    [
      [0x40], [0x41], [0x42], [0x43], [0x44], [0x45], [0x46], [0x47], [0x48], [0x49], [0x4A], [0x4B], [0x4C],
      [0x4D], [0x4E], [0x4F]].map decodeAll = [
      .ldBB, .ldBC, .ldBD, .ldBE, .ldBH, .ldBL, .ldBMemHL, .ldBA, .ldCB, .ldCC, .ldCD, .ldCE, .ldCH, .ldCL,
      .ldCMemHL, .ldCA].map some := by
  rfl

theorem test_decode_primary_5 :
    [
      [0x50], [0x51], [0x52], [0x53], [0x54], [0x55], [0x56], [0x57], [0x58], [0x59], [0x5A], [0x5B], [0x5C],
      [0x5D], [0x5E], [0x5F]].map decodeAll = [
      .ldDB, .ldDC, .ldDD, .ldDE, .ldDH, .ldDL, .ldDMemHL, .ldDA, .ldEB, .ldEC, .ldED, .ldEE, .ldEH, .ldEL,
      .ldEMemHL, .ldEA].map some := by
  rfl

theorem test_decode_primary_6 :
    [
      [0x60], [0x61], [0x62], [0x63], [0x64], [0x65], [0x66], [0x67], [0x68], [0x69], [0x6A], [0x6B], [0x6C],
      [0x6D], [0x6E], [0x6F]].map decodeAll = [
      .ldHB, .ldHC, .ldHD, .ldHE, .ldHH, .ldHL, .ldHMemHL, .ldHA, .ldLB, .ldLC, .ldLD, .ldLE, .ldLH, .ldLL,
      .ldLMemHL, .ldLA].map some := by
  rfl

theorem test_decode_primary_7 :
    [
      [0x70], [0x71], [0x72], [0x73], [0x74], [0x75], [0x76], [0x77], [0x78], [0x79], [0x7A], [0x7B], [0x7C],
      [0x7D], [0x7E], [0x7F]].map decodeAll = [
      .ldMemHLB, .ldMemHLC, .ldMemHLD, .ldMemHLE, .ldMemHLH, .ldMemHLL, .halt, .ldMemHLA, .ldAB, .ldAC, .ldAD,
      .ldAE, .ldAH, .ldAL, .ldAMemHL, .ldAA].map some := by
  rfl

theorem test_decode_primary_8 :
    [
      [0x80], [0x81], [0x82], [0x83], [0x84], [0x85], [0x86], [0x87], [0x88], [0x89], [0x8A], [0x8B], [0x8C],
      [0x8D], [0x8E], [0x8F]].map decodeAll = [
      .addAB, .addAC, .addAD, .addAE, .addAH, .addAL, .addAMemHL, .addAA, .adcAB, .adcAC, .adcAD, .adcAE, .adcAH,
      .adcAL, .adcAMemHL, .adcAA].map some := by
  rfl

theorem test_decode_primary_9 :
    [
      [0x90], [0x91], [0x92], [0x93], [0x94], [0x95], [0x96], [0x97], [0x98], [0x99], [0x9A], [0x9B], [0x9C],
      [0x9D], [0x9E], [0x9F]].map decodeAll = [
      .subB, .subC, .subD, .subE, .subH, .subL, .subMemHL, .subA, .sbcAB, .sbcAC, .sbcAD, .sbcAE, .sbcAH, .sbcAL,
      .sbcAMemHL, .sbcAA].map some := by
  rfl

theorem test_decode_primary_A :
    [
      [0xA0], [0xA1], [0xA2], [0xA3], [0xA4], [0xA5], [0xA6], [0xA7], [0xA8], [0xA9], [0xAA], [0xAB], [0xAC],
      [0xAD], [0xAE], [0xAF]].map decodeAll = [
      .andB, .andC, .andD, .andE, .andH, .andL, .andMemHL, .andA, .xorB, .xorC, .xorD, .xorE, .xorH, .xorL,
      .xorMemHL, .xorA].map some := by
  rfl

theorem test_decode_primary_B :
    [
      [0xB0], [0xB1], [0xB2], [0xB3], [0xB4], [0xB5], [0xB6], [0xB7], [0xB8], [0xB9], [0xBA], [0xBB], [0xBC],
      [0xBD], [0xBE], [0xBF]].map decodeAll = [
      .orB, .orC, .orD, .orE, .orH, .orL, .orMemHL, .orA, .cpB, .cpC, .cpD, .cpE, .cpH, .cpL, .cpMemHL, .cpA].map some := by
  rfl

theorem test_decode_primary_C :
    [
      [0xC0], [0xC1], [0xC2, 0x34, 0x12], [0xC3, 0x34, 0x12], [0xC4, 0x34, 0x12], [0xC5], [0xC6, 0x12], [0xC7],
      [0xC8], [0xC9], [0xCA, 0x34, 0x12], [0xCC, 0x34, 0x12], [0xCD, 0x34, 0x12], [0xCE, 0x12], [0xCF]].map decodeAll = [
      .retNZ, .popBC, .jpNZNn 0x1234, .jpNn 0x1234, .callNZNn 0x1234, .pushBC, .addAN 0x12, .rst00, .retZ, .ret,
      .jpZNn 0x1234, .callZNn 0x1234, .callNn 0x1234, .adcAN 0x12, .rst08].map some := by
  rfl

theorem test_decode_primary_D :
    [
      [0xD0], [0xD1], [0xD2, 0x34, 0x12], [0xD3], [0xD4, 0x34, 0x12], [0xD5], [0xD6, 0x12], [0xD7], [0xD8], [0xD9],
      [0xDA, 0x34, 0x12], [0xDB], [0xDC, 0x34, 0x12], [0xDD], [0xDE, 0x12], [0xDF]].map decodeAll = [
      .retNC, .popDE, .jpNCNn 0x1234, .illegalD3, .callNCNn 0x1234, .pushDE, .subN 0x12, .rst10, .retC, .reti,
      .jpCNn 0x1234, .illegalDB, .callCNn 0x1234, .illegalDD, .sbcAN 0x12, .rst18].map some := by
  rfl

theorem test_decode_primary_E :
    [
      [0xE0, 0x12], [0xE1], [0xE2], [0xE3], [0xE4], [0xE5], [0xE6, 0x12], [0xE7], [0xE8, 0x12], [0xE9],
      [0xEA, 0x34, 0x12], [0xEB], [0xEC], [0xED], [0xEE, 0x12], [0xEF]].map decodeAll = [
      .ldhMemNA 0x12, .popHL, .ldMemCA, .illegalE3, .illegalE4, .pushHL, .andN 0x12, .rst20, .addSPE8 0x12, .jpHL,
      .ldMemNnA 0x1234, .illegalEB, .illegalEC, .illegalED, .xorN 0x12, .rst28].map some := by
  rfl

theorem test_decode_primary_F :
    [
      [0xF0, 0x12], [0xF1], [0xF2], [0xF3], [0xF4], [0xF5], [0xF6, 0x12], [0xF7], [0xF8, 0x12], [0xF9],
      [0xFA, 0x34, 0x12], [0xFB], [0xFC], [0xFD], [0xFE, 0x12], [0xFF]].map decodeAll = [
      .ldhAMemN 0x12, .popAF, .ldAMemC, .di, .illegalF4, .pushAF, .orN 0x12, .rst30, .ldHLSPE8 0x12, .ldSPHL,
      .ldAMemNn 0x1234, .ei, .illegalFC, .illegalFD, .cpN 0x12, .rst38].map some := by
  rfl

theorem test_decode_cb_0 :
    [
      [0xCB, 0x00], [0xCB, 0x01], [0xCB, 0x02], [0xCB, 0x03], [0xCB, 0x04], [0xCB, 0x05], [0xCB, 0x06],
      [0xCB, 0x07], [0xCB, 0x08], [0xCB, 0x09], [0xCB, 0x0A], [0xCB, 0x0B], [0xCB, 0x0C], [0xCB, 0x0D],
      [0xCB, 0x0E], [0xCB, 0x0F]].map decodeAll = [
      .rlcB, .rlcC, .rlcD, .rlcE, .rlcH, .rlcL, .rlcMemHL, .rlcA, .rrcB, .rrcC, .rrcD, .rrcE, .rrcH, .rrcL,
      .rrcMemHL, .rrcA].map some := by
  rfl

theorem test_decode_cb_1 :
    [
      [0xCB, 0x10], [0xCB, 0x11], [0xCB, 0x12], [0xCB, 0x13], [0xCB, 0x14], [0xCB, 0x15], [0xCB, 0x16],
      [0xCB, 0x17], [0xCB, 0x18], [0xCB, 0x19], [0xCB, 0x1A], [0xCB, 0x1B], [0xCB, 0x1C], [0xCB, 0x1D],
      [0xCB, 0x1E], [0xCB, 0x1F]].map decodeAll = [
      .rlB, .rlC, .rlD, .rlE, .rlH, .rlL, .rlMemHL, .rlA, .rrB, .rrC, .rrD, .rrE, .rrH, .rrL, .rrMemHL, .rrA].map some := by
  rfl

theorem test_decode_cb_2 :
    [
      [0xCB, 0x20], [0xCB, 0x21], [0xCB, 0x22], [0xCB, 0x23], [0xCB, 0x24], [0xCB, 0x25], [0xCB, 0x26],
      [0xCB, 0x27], [0xCB, 0x28], [0xCB, 0x29], [0xCB, 0x2A], [0xCB, 0x2B], [0xCB, 0x2C], [0xCB, 0x2D],
      [0xCB, 0x2E], [0xCB, 0x2F]].map decodeAll = [
      .slaB, .slaC, .slaD, .slaE, .slaH, .slaL, .slaMemHL, .slaA, .sraB, .sraC, .sraD, .sraE, .sraH, .sraL,
      .sraMemHL, .sraA].map some := by
  rfl

theorem test_decode_cb_3 :
    [
      [0xCB, 0x30], [0xCB, 0x31], [0xCB, 0x32], [0xCB, 0x33], [0xCB, 0x34], [0xCB, 0x35], [0xCB, 0x36],
      [0xCB, 0x37], [0xCB, 0x38], [0xCB, 0x39], [0xCB, 0x3A], [0xCB, 0x3B], [0xCB, 0x3C], [0xCB, 0x3D],
      [0xCB, 0x3E], [0xCB, 0x3F]].map decodeAll = [
      .swapB, .swapC, .swapD, .swapE, .swapH, .swapL, .swapMemHL, .swapA, .srlB, .srlC, .srlD, .srlE, .srlH, .srlL,
      .srlMemHL, .srlA].map some := by
  rfl

theorem test_decode_cb_4 :
    [
      [0xCB, 0x40], [0xCB, 0x41], [0xCB, 0x42], [0xCB, 0x43], [0xCB, 0x44], [0xCB, 0x45], [0xCB, 0x46],
      [0xCB, 0x47], [0xCB, 0x48], [0xCB, 0x49], [0xCB, 0x4A], [0xCB, 0x4B], [0xCB, 0x4C], [0xCB, 0x4D],
      [0xCB, 0x4E], [0xCB, 0x4F]].map decodeAll = [
      .bit0B, .bit0C, .bit0D, .bit0E, .bit0H, .bit0L, .bit0MemHL, .bit0A, .bit1B, .bit1C, .bit1D, .bit1E, .bit1H,
      .bit1L, .bit1MemHL, .bit1A].map some := by
  rfl

theorem test_decode_cb_5 :
    [
      [0xCB, 0x50], [0xCB, 0x51], [0xCB, 0x52], [0xCB, 0x53], [0xCB, 0x54], [0xCB, 0x55], [0xCB, 0x56],
      [0xCB, 0x57], [0xCB, 0x58], [0xCB, 0x59], [0xCB, 0x5A], [0xCB, 0x5B], [0xCB, 0x5C], [0xCB, 0x5D],
      [0xCB, 0x5E], [0xCB, 0x5F]].map decodeAll = [
      .bit2B, .bit2C, .bit2D, .bit2E, .bit2H, .bit2L, .bit2MemHL, .bit2A, .bit3B, .bit3C, .bit3D, .bit3E, .bit3H,
      .bit3L, .bit3MemHL, .bit3A].map some := by
  rfl

theorem test_decode_cb_6 :
    [
      [0xCB, 0x60], [0xCB, 0x61], [0xCB, 0x62], [0xCB, 0x63], [0xCB, 0x64], [0xCB, 0x65], [0xCB, 0x66],
      [0xCB, 0x67], [0xCB, 0x68], [0xCB, 0x69], [0xCB, 0x6A], [0xCB, 0x6B], [0xCB, 0x6C], [0xCB, 0x6D],
      [0xCB, 0x6E], [0xCB, 0x6F]].map decodeAll = [
      .bit4B, .bit4C, .bit4D, .bit4E, .bit4H, .bit4L, .bit4MemHL, .bit4A, .bit5B, .bit5C, .bit5D, .bit5E, .bit5H,
      .bit5L, .bit5MemHL, .bit5A].map some := by
  rfl

theorem test_decode_cb_7 :
    [
      [0xCB, 0x70], [0xCB, 0x71], [0xCB, 0x72], [0xCB, 0x73], [0xCB, 0x74], [0xCB, 0x75], [0xCB, 0x76],
      [0xCB, 0x77], [0xCB, 0x78], [0xCB, 0x79], [0xCB, 0x7A], [0xCB, 0x7B], [0xCB, 0x7C], [0xCB, 0x7D],
      [0xCB, 0x7E], [0xCB, 0x7F]].map decodeAll = [
      .bit6B, .bit6C, .bit6D, .bit6E, .bit6H, .bit6L, .bit6MemHL, .bit6A, .bit7B, .bit7C, .bit7D, .bit7E, .bit7H,
      .bit7L, .bit7MemHL, .bit7A].map some := by
  rfl

theorem test_decode_cb_8 :
    [
      [0xCB, 0x80], [0xCB, 0x81], [0xCB, 0x82], [0xCB, 0x83], [0xCB, 0x84], [0xCB, 0x85], [0xCB, 0x86],
      [0xCB, 0x87], [0xCB, 0x88], [0xCB, 0x89], [0xCB, 0x8A], [0xCB, 0x8B], [0xCB, 0x8C], [0xCB, 0x8D],
      [0xCB, 0x8E], [0xCB, 0x8F]].map decodeAll = [
      .res0B, .res0C, .res0D, .res0E, .res0H, .res0L, .res0MemHL, .res0A, .res1B, .res1C, .res1D, .res1E, .res1H,
      .res1L, .res1MemHL, .res1A].map some := by
  rfl

theorem test_decode_cb_9 :
    [
      [0xCB, 0x90], [0xCB, 0x91], [0xCB, 0x92], [0xCB, 0x93], [0xCB, 0x94], [0xCB, 0x95], [0xCB, 0x96],
      [0xCB, 0x97], [0xCB, 0x98], [0xCB, 0x99], [0xCB, 0x9A], [0xCB, 0x9B], [0xCB, 0x9C], [0xCB, 0x9D],
      [0xCB, 0x9E], [0xCB, 0x9F]].map decodeAll = [
      .res2B, .res2C, .res2D, .res2E, .res2H, .res2L, .res2MemHL, .res2A, .res3B, .res3C, .res3D, .res3E, .res3H,
      .res3L, .res3MemHL, .res3A].map some := by
  rfl

theorem test_decode_cb_A :
    [
      [0xCB, 0xA0], [0xCB, 0xA1], [0xCB, 0xA2], [0xCB, 0xA3], [0xCB, 0xA4], [0xCB, 0xA5], [0xCB, 0xA6],
      [0xCB, 0xA7], [0xCB, 0xA8], [0xCB, 0xA9], [0xCB, 0xAA], [0xCB, 0xAB], [0xCB, 0xAC], [0xCB, 0xAD],
      [0xCB, 0xAE], [0xCB, 0xAF]].map decodeAll = [
      .res4B, .res4C, .res4D, .res4E, .res4H, .res4L, .res4MemHL, .res4A, .res5B, .res5C, .res5D, .res5E, .res5H,
      .res5L, .res5MemHL, .res5A].map some := by
  rfl

theorem test_decode_cb_B :
    [
      [0xCB, 0xB0], [0xCB, 0xB1], [0xCB, 0xB2], [0xCB, 0xB3], [0xCB, 0xB4], [0xCB, 0xB5], [0xCB, 0xB6],
      [0xCB, 0xB7], [0xCB, 0xB8], [0xCB, 0xB9], [0xCB, 0xBA], [0xCB, 0xBB], [0xCB, 0xBC], [0xCB, 0xBD],
      [0xCB, 0xBE], [0xCB, 0xBF]].map decodeAll = [
      .res6B, .res6C, .res6D, .res6E, .res6H, .res6L, .res6MemHL, .res6A, .res7B, .res7C, .res7D, .res7E, .res7H,
      .res7L, .res7MemHL, .res7A].map some := by
  rfl

theorem test_decode_cb_C :
    [
      [0xCB, 0xC0], [0xCB, 0xC1], [0xCB, 0xC2], [0xCB, 0xC3], [0xCB, 0xC4], [0xCB, 0xC5], [0xCB, 0xC6],
      [0xCB, 0xC7], [0xCB, 0xC8], [0xCB, 0xC9], [0xCB, 0xCA], [0xCB, 0xCB], [0xCB, 0xCC], [0xCB, 0xCD],
      [0xCB, 0xCE], [0xCB, 0xCF]].map decodeAll = [
      .set0B, .set0C, .set0D, .set0E, .set0H, .set0L, .set0MemHL, .set0A, .set1B, .set1C, .set1D, .set1E, .set1H,
      .set1L, .set1MemHL, .set1A].map some := by
  rfl

theorem test_decode_cb_D :
    [
      [0xCB, 0xD0], [0xCB, 0xD1], [0xCB, 0xD2], [0xCB, 0xD3], [0xCB, 0xD4], [0xCB, 0xD5], [0xCB, 0xD6],
      [0xCB, 0xD7], [0xCB, 0xD8], [0xCB, 0xD9], [0xCB, 0xDA], [0xCB, 0xDB], [0xCB, 0xDC], [0xCB, 0xDD],
      [0xCB, 0xDE], [0xCB, 0xDF]].map decodeAll = [
      .set2B, .set2C, .set2D, .set2E, .set2H, .set2L, .set2MemHL, .set2A, .set3B, .set3C, .set3D, .set3E, .set3H,
      .set3L, .set3MemHL, .set3A].map some := by
  rfl

theorem test_decode_cb_E :
    [
      [0xCB, 0xE0], [0xCB, 0xE1], [0xCB, 0xE2], [0xCB, 0xE3], [0xCB, 0xE4], [0xCB, 0xE5], [0xCB, 0xE6],
      [0xCB, 0xE7], [0xCB, 0xE8], [0xCB, 0xE9], [0xCB, 0xEA], [0xCB, 0xEB], [0xCB, 0xEC], [0xCB, 0xED],
      [0xCB, 0xEE], [0xCB, 0xEF]].map decodeAll = [
      .set4B, .set4C, .set4D, .set4E, .set4H, .set4L, .set4MemHL, .set4A, .set5B, .set5C, .set5D, .set5E, .set5H,
      .set5L, .set5MemHL, .set5A].map some := by
  rfl

theorem test_decode_cb_F :
    [
      [0xCB, 0xF0], [0xCB, 0xF1], [0xCB, 0xF2], [0xCB, 0xF3], [0xCB, 0xF4], [0xCB, 0xF5], [0xCB, 0xF6],
      [0xCB, 0xF7], [0xCB, 0xF8], [0xCB, 0xF9], [0xCB, 0xFA], [0xCB, 0xFB], [0xCB, 0xFC], [0xCB, 0xFD],
      [0xCB, 0xFE], [0xCB, 0xFF]].map decodeAll = [
      .set6B, .set6C, .set6D, .set6E, .set6H, .set6L, .set6MemHL, .set6A, .set7B, .set7C, .set7D, .set7E, .set7H,
      .set7L, .set7MemHL, .set7A].map some := by
  rfl

/-! ## One step: expected values from 95_test_vectors.md; a test named `v<n>` is its vector V<n> -/

/-- LD B,C (R220). -/
theorem test_v1_ld_b_c :
    after (placed 0xC000 [0x41] { State.reset with pc := 0xC000, b := 0x11, c := 0x22 })
      (fun t => (t.b, t.pc)) =
      some (0x22, 0xC001) := by
  decide

/-- LD D,n (R221). -/
theorem test_v3_ld_d_n :
    after (placed 0xC000 [0x16, 0x5A] { State.reset with pc := 0xC000 })
      (fun t => (t.d, t.pc)) =
      some (0x5A, 0xC002) := by
  decide

/-- LD (HL),n into ROM, kind None (R224). -/
theorem test_v7_ld :
    after (placed 0xC000 [0x36, 0x42] { State.reset with pc := 0xC000, h := 0x20, l := 0x00 })
      (fun t => (t.pc, t.fault)) =
      some (0xC002, some (.malformedCartridgeAddr 0x2000)) := by
  decide

/-- LD A,(HL+) (R235). -/
theorem test_v19_ld_a :
    after (placed 0xC000 [0x2A] (placed 0xC0FF [0x10] { State.reset with pc := 0xC000, h := 0xC0, l := 0xFF }))
      (fun t => (t.a, t.h, t.l)) =
      some (0x10, 0xC1, 0x00) := by
  decide

/-- LD A,(HL-) from 0x0000 (HL wraps) (R236). -/
theorem test_v20_ld_a :
    after (placed 0xC000 [0x3A] (placed 0x0000 [0x31] { State.reset with pc := 0xC000, h := 0x00, l := 0x00 }))
      (fun t => (t.a, t.h, t.l)) =
      some (0x31, 0xFF, 0xFF) := by
  decide

/-- LD (HL+),A at 0xFFFF (HL wraps) (R237). -/
theorem test_v21_ld :
    after (placed 0xC000 [0x22] { State.reset with pc := 0xC000, a := 0x30, h := 0xFF, l := 0xFF })
      (fun t => (t.h, t.l, peek t 0xFFFF)) =
      some (0x00, 0x00, 0x30) := by
  decide

/-- LD A,(HL) echo RAM (0xE123 mirrors 0xC123) (R222). -/
theorem test_v23_ld_a :
    after (placed 0xC000 [0x7E] (placed 0xC123 [0x5C] { State.reset with pc := 0xC000, h := 0xE1, l := 0x23 }))
      (fun t => (t.a, t.pc)) =
      some (0x5C, 0xC001) := by
  decide

/-- LD A,(HL) unusable range (reads 0) (R222). -/
theorem test_v24_ld_a :
    after (placed 0xC000 [0x7E] { State.reset with pc := 0xC000, a := 0x77, h := 0xFE, l := 0xA0 })
      (fun t => (t.a, t.pc)) =
      some (0x00, 0xC001) := by
  decide

/-- LD (0xFFFF),SP, kind None (high byte faults at 0x0000; IE already written) (R251). -/
theorem test_v29_ld :
    after (placed 0xC000 [0x08, 0xFF, 0xFF] { State.reset with pc := 0xC000, sp := 0xABCD })
      (fun t => (peek t 0xFFFF, t.fault)) =
      some (0xCD, some (.malformedCartridgeAddr 0x0000)) := by
  decide

/-- PUSH HL with SP=0x0001, kind None (R253). -/
theorem test_v34_push_hl_with_sp_0x0001_kind_none :
    after (placed 0xC000 [0xE5] { State.reset with pc := 0xC000, h := 0xBE, l := 0xEF, sp := 0x0001 })
      (fun t => (t.sp, peek t 0xFFFF, t.fault)) =
      some (0xFFFF, 0xEF, some (.malformedCartridgeAddr 0x0000)) := by
  decide

/-- POP AF (R254). -/
theorem test_v35_pop_af :
    after (placed 0xC000 [0xF1] (placed 0xFFFD [0x12] (placed 0xFFFC [0xFF] { State.reset with pc := 0xC000, sp := 0xFFFC })))
      (fun t => (t.a, t.f, t.sp)) =
      some (0x12, 0xF0, 0xFFFE) := by
  decide

/-- POP DE with SP=0xFFFF (IE then ROM[0]) (R254). -/
theorem test_v37_pop_de_with_sp_0xffff :
    after (placed 0xC000 [0xD1] (placed 0x0000 [0x31] (placed 0xFFFF [0x01] { State.reset with pc := 0xC000, sp := 0xFFFF })))
      (fun t => (t.d, t.e, t.sp)) =
      some (0x31, 0x01, 0x0001) := by
  decide

/-- LD HL,SP+2 (R255). -/
theorem test_v38_ld_hl_sp_2 :
    after (placed 0xC000 [0xF8, 0x02] { State.reset with pc := 0xC000, sp := 0xFFF8 })
      (fun t => (t.h, t.l)) =
      some (0xFF, 0xFA) := by
  decide

/-- LD HL,SP-1 with SP=0x0001 (R255). -/
theorem test_v39_ld_hl_sp_1_with_sp_0x0001 :
    after (placed 0xC000 [0xF8, 0xFF] { State.reset with pc := 0xC000, sp := 0x0001 })
      (fun t => (t.f, t.pc)) =
      some (0x30, 0xC002) := by
  decide

/-- LD HL,SP+0x0F with SP=0x0001 (half carry only) (R255). -/
theorem test_v41_ld_hl_sp_0x0f_with_sp_0x0001 :
    after (placed 0xC000 [0xF8, 0x0F] { State.reset with pc := 0xC000, sp := 0x0001 })
      (fun t => (t.f, t.l)) =
      some (0x20, 0x10) := by
  decide

/-- ADD A,B scenario B (R270). -/
theorem test_v43_add_a_b_scenario_b :
    after (placed 0xC000 [0x80] { State.reset with pc := 0xC000, a := 0xFF, b := 0x01 })
      (fun t => (t.a, t.f)) =
      some (0x00, 0xB0) := by
  decide

/-- ADC A,B with carry (Z H C from the carry-in) (R273). -/
theorem test_v49_adc_a_b_with_carry :
    after (placed 0xC000 [0x88] { State.reset with pc := 0xC000, a := 0xFF, b := 0x00, f := 0x10 })
      (fun t => (t.a, t.f)) =
      some (0x00, 0xB0) := by
  decide

/-- ADC A,(HL) without carry (R274). -/
theorem test_v50_adc_a :
    after (placed 0xC000 [0x8E] (placed 0xC100 [0x1E] { State.reset with pc := 0xC000, a := 0xE1, h := 0xC1, l := 0x00 }))
      (fun t => (t.a, t.pc)) =
      some (0xFF, 0xC001) := by
  decide

/-- SUB (HL) (0 - 1) (R277). -/
theorem test_v55_sub :
    after (placed 0xC000 [0x96] (placed 0xC100 [0x01] { State.reset with pc := 0xC000, a := 0x00, h := 0xC1, l := 0x00 }))
      (fun t => (t.a, t.f)) =
      some (0xFF, 0x70) := by
  decide

/-- SBC A,B with carry (R279). -/
theorem test_v58_sbc_a_b_with_carry :
    after (placed 0xC000 [0x98] { State.reset with pc := 0xC000, a := 0x3B, b := 0x4F, f := 0x10 })
      (fun t => (t.a, t.f)) =
      some (0xEB, 0x70) := by
  decide

/-- SBC A,(HL) with carry (D36, Z from the truncated result) (R280). -/
theorem test_v59_sbc_a :
    after (placed 0xC000 [0x9E] (placed 0xC100 [0xFF] { State.reset with pc := 0xC000, a := 0x00, h := 0xC1, l := 0x00, f := 0x10 }))
      (fun t => (t.f, t.pc)) =
      some (0xF0, 0xC001) := by
  decide

/-- SBC A,n with carry (H from the carry-in) (R281). -/
theorem test_v60_sbc_a_n_with_carry :
    after (placed 0xC000 [0xDE, 0x00] { State.reset with pc := 0xC000, a := 0x10, f := 0x10 })
      (fun t => (t.a, t.f)) =
      some (0x0F, 0x60) := by
  decide

/-- AND (HL) (Z, H always 1) (R283). -/
theorem test_v62_and :
    after (placed 0xC000 [0xA6] (placed 0xC100 [0x0F] { State.reset with pc := 0xC000, a := 0xF0, h := 0xC1, l := 0x00 }))
      (fun t => (t.a, t.f)) =
      some (0x00, 0xA0) := by
  decide

/-- XOR A (R285). -/
theorem test_v64_xor_a :
    after (placed 0xC000 [0xAF] { State.reset with pc := 0xC000, a := 0x5A, f := 0x70 })
      (fun t => (t.a, t.f)) =
      some (0x00, 0x80) := by
  decide

/-- OR B (R288). -/
theorem test_v67_or_b :
    after (placed 0xC000 [0xB0] { State.reset with pc := 0xC000, a := 0x00, b := 0x00, f := 0x30 })
      (fun t => (t.f, t.pc)) =
      some (0x80, 0xC001) := by
  decide

/-- CP B less (R291). -/
theorem test_v71_cp_b_less :
    after (placed 0xC000 [0xB8] { State.reset with pc := 0xC000, a := 0x42, b := 0x50 })
      (fun t => (t.f, t.pc)) =
      some (0x50, 0xC001) := by
  decide

/-- INC A (C kept) (R294). -/
theorem test_v75_inc_a :
    after (placed 0xC000 [0x3C] { State.reset with pc := 0xC000, a := 0xFF, f := 0x10 })
      (fun t => (t.a, t.f)) =
      some (0x00, 0xB0) := by
  decide

/-- INC (HL) (R295). -/
theorem test_v77_inc :
    after (placed 0xC000 [0x34] (placed 0xC100 [0xFF] { State.reset with pc := 0xC000, h := 0xC1, l := 0x00 }))
      (fun t => (t.f, peek t 0xC100)) =
      some (0xA0, 0x00) := by
  decide

/-- DEC E (R296). -/
theorem test_v80_dec_e :
    after (placed 0xC000 [0x1D] { State.reset with pc := 0xC000, e := 0x10, f := 0x10 })
      (fun t => (t.f, t.e)) =
      some (0x70, 0x0F) := by
  decide

/-- DEC (HL) (R297). -/
theorem test_v81_dec :
    after (placed 0xC000 [0x35] (placed 0xC100 [0x00] { State.reset with pc := 0xC000, h := 0xC1, l := 0x00 }))
      (fun t => (t.f, peek t 0xC100)) =
      some (0x60, 0xFF) := by
  decide

/-- DAA with A=0x9A, F=0 (both corrections) (R298). -/
theorem test_v88_daa_with_a_0x9a_f_0 :
    after (placed 0xC000 [0x27] { State.reset with pc := 0xC000, a := 0x9A, f := 0x00 })
      (fun t => (t.a, t.f)) =
      some (0x00, 0x90) := by
  decide

/-- DAA with A=0x00, N=1 H=0 C=0 (N kept, Z set) (R298). -/
theorem test_v89_daa_with_a_0x00_n_1_h_0_c_0 :
    after (placed 0xC000 [0x27] { State.reset with pc := 0xC000, a := 0x00, f := 0x40 })
      (fun t => (t.f, t.pc)) =
      some (0xC0, 0xC001) := by
  decide

/-- CPL (R299). -/
theorem test_v90_cpl :
    after (placed 0xC000 [0x2F] { State.reset with pc := 0xC000, a := 0x35, f := 0x90 })
      (fun t => (t.a, t.f)) =
      some (0xCA, 0xF0) := by
  decide

/-- SCF (R300). -/
theorem test_v91_scf :
    after (placed 0xC000 [0x37] { State.reset with pc := 0xC000, f := 0xE0 })
      (fun t => (t.f, t.pc)) =
      some (0x90, 0xC001) := by
  decide

/-- CCF with C=1 (R301). -/
theorem test_v92_ccf_with_c_1 :
    after (placed 0xC000 [0x3F] { State.reset with pc := 0xC000, f := 0xF0 })
      (fun t => (t.f, t.pc)) =
      some (0x80, 0xC001) := by
  decide

/-- ADD HL,BC bit-11 carry (Z kept) (R310). -/
theorem test_v94_add_hl_bc_bit_11_carry :
    after (placed 0xC000 [0x09] { State.reset with pc := 0xC000, h := 0x0F, l := 0xFF, b := 0x00, c := 0x01, f := 0x80 })
      (fun t => (t.f, t.h, t.l)) =
      some (0xA0, 0x10, 0x00) := by
  decide

/-- ADD HL,DE wrap (HL = 0 but Z not set) (R310). -/
theorem test_v95_add_hl_de_wrap :
    after (placed 0xC000 [0x19] { State.reset with pc := 0xC000, h := 0xFF, l := 0xFF, d := 0x00, e := 0x01 })
      (fun t => (t.f, t.h, t.l)) =
      some (0x30, 0x00, 0x00) := by
  decide

/-- ADD HL,BC bit-3 only (no H (bit 11, C4)) (R310). -/
theorem test_v98_add_hl_bc_bit_3_only :
    after (placed 0xC000 [0x09] { State.reset with pc := 0xC000, h := 0x00, l := 0x0F, b := 0x00, c := 0x01 })
      (fun t => (t.l, t.pc)) =
      some (0x10, 0xC001) := by
  decide

/-- INC BC (wraps, flags kept) (R311). -/
theorem test_v99_inc_bc :
    after (placed 0xC000 [0x03] { State.reset with pc := 0xC000, b := 0xFF, c := 0xFF, f := 0xF0 })
      (fun t => (t.b, t.c)) =
      some (0x00, 0x00) := by
  decide

/-- DEC DE (wraps) (R312). -/
theorem test_v101_dec_de :
    after (placed 0xC000 [0x1B] { State.reset with pc := 0xC000, d := 0x00, e := 0x00 })
      (fun t => (t.d, t.e)) =
      some (0xFF, 0xFF) := by
  decide

/-- ADD SP,2 (R313). -/
theorem test_v103_add_sp_2 :
    after (placed 0xC000 [0xE8, 0x02] { State.reset with pc := 0xC000, sp := 0xFFF8 })
      (fun t => (t.sp, t.pc)) =
      some (0xFFFA, 0xC002) := by
  decide

/-- ADD SP,-1 with SP=0x0001 (both carries, Z cleared) (R313). -/
theorem test_v107_add_sp_1_with_sp_0x0001 :
    after (placed 0xC000 [0xE8, 0xFF] { State.reset with pc := 0xC000, f := 0x80, sp := 0x0001 })
      (fun t => (t.f, t.sp)) =
      some (0x30, 0x0000) := by
  decide

/-- ADD SP,-128 (R313). -/
theorem test_v108_add_sp_128 :
    after (placed 0xC000 [0xE8, 0x80] { State.reset with pc := 0xC000, sp := 0xD000 })
      (fun t => (t.sp, t.pc)) =
      some (0xCF80, 0xC002) := by
  decide

/-- RLCA of 0 (Z = 0 (D25)) (R320). -/
theorem test_v110_rlca_of_0 :
    after (placed 0xC000 [0x07] { State.reset with pc := 0xC000, a := 0x00, f := 0x80 })
      (fun t => (t.f, t.pc)) =
      some (0x00, 0xC001) := by
  decide

/-- RLA (result 0, Z = 0) (R322). -/
theorem test_v112_rla :
    after (placed 0xC000 [0x17] { State.reset with pc := 0xC000, a := 0x80 })
      (fun t => (t.a, t.f)) =
      some (0x00, 0x10) := by
  decide

/-- RRA with carry (R323). -/
theorem test_v114_rra_with_carry :
    after (placed 0xC000 [0x1F] { State.reset with pc := 0xC000, a := 0x01, f := 0x10 })
      (fun t => (t.a, t.pc)) =
      some (0x80, 0xC001) := by
  decide

/-- RLC (HL) (R325). -/
theorem test_v117_rlc :
    after (placed 0xC000 [0xCB, 0x06] (placed 0xC100 [0x81] { State.reset with pc := 0xC000, h := 0xC1, l := 0x00 }))
      (fun t => (t.f, peek t 0xC100)) =
      some (0x10, 0x03) := by
  decide

/-- RL E with carry (R328). -/
theorem test_v120_rl_e_with_carry :
    after (placed 0xC000 [0xCB, 0x13] { State.reset with pc := 0xC000, e := 0x80, f := 0x10 })
      (fun t => (t.e, t.pc)) =
      some (0x01, 0xC002) := by
  decide

/-- RR (HL) (R331). -/
theorem test_v124_rr :
    after (placed 0xC000 [0xCB, 0x1E] (placed 0xC100 [0x01] { State.reset with pc := 0xC000, h := 0xC1, l := 0x00 }))
      (fun t => (t.f, peek t 0xC100)) =
      some (0x90, 0x00) := by
  decide

/-- SRA C (bit 7 kept) (R334). -/
theorem test_v128_sra_c :
    after (placed 0xC000 [0xCB, 0x29] { State.reset with pc := 0xC000, c := 0x81 })
      (fun t => (t.f, t.c)) =
      some (0x10, 0xC0) := by
  decide

/-- SWAP A (R336). -/
theorem test_v131_swap_a :
    after (placed 0xC000 [0xCB, 0x37] { State.reset with pc := 0xC000, a := 0xF1, f := 0x70 })
      (fun t => (t.a, t.f)) =
      some (0x1F, 0x00) := by
  decide

/-- SWAP B of 0 (C cleared) (R336). -/
theorem test_v132_swap_b_of_0 :
    after (placed 0xC000 [0xCB, 0x30] { State.reset with pc := 0xC000, b := 0x00, f := 0x10 })
      (fun t => (t.f, t.pc)) =
      some (0x80, 0xC002) := by
  decide

/-- SRL H (Z = 1, C = 1) (R338). -/
theorem test_v135_srl_h :
    after (placed 0xC000 [0xCB, 0x3C] { State.reset with pc := 0xC000, h := 0x01 })
      (fun t => (t.f, t.h)) =
      some (0x90, 0x00) := by
  decide

/-- BIT 3,B (C kept 1) (R350). -/
theorem test_v139_bit_3_b :
    after (placed 0xC000 [0xCB, 0x58] { State.reset with pc := 0xC000, b := 0x08, f := 0x90 })
      (fun t => (t.f, t.pc)) =
      some (0x30, 0xC002) := by
  decide

/-- BIT 3,(HL) (R351). -/
theorem test_v140_bit_3 :
    after (placed 0xC000 [0xCB, 0x5E] (placed 0xC100 [0xF7] { State.reset with pc := 0xC000, h := 0xC1, l := 0x00 }))
      (fun t => (t.f, t.pc)) =
      some (0xA0, 0xC002) := by
  decide

/-- RES 7,A (flags kept) (R352). -/
theorem test_v142_res_7_a :
    after (placed 0xC000 [0xCB, 0xBF] { State.reset with pc := 0xC000, a := 0xFF, f := 0xF0 })
      (fun t => (t.a, t.pc)) =
      some (0x7F, 0xC002) := by
  decide

/-- RES 4,(HL) (R353). -/
theorem test_v144_res_4 :
    after (placed 0xC000 [0xCB, 0xA6] (placed 0xC100 [0xFF] { State.reset with pc := 0xC000, h := 0xC1, l := 0x00 }))
      (fun t => (t.pc, peek t 0xC100)) =
      some (0xC002, 0xEF) := by
  decide

/-- SET 7,(HL) (R355). -/
theorem test_v146_set_7 :
    after (placed 0xC000 [0xCB, 0xFE] (placed 0xC100 [0x01] { State.reset with pc := 0xC000, h := 0xC1, l := 0x00 }))
      (fun t => (t.pc, peek t 0xC100)) =
      some (0xC002, 0x81) := by
  decide

/-- SET 0,(HL) on ROM, kind None (the write faults) (R355). -/
theorem test_v147_set_0 :
    after (placed 0xC000 [0xCB, 0xC6] { State.reset with pc := 0xC000, h := 0x00, l := 0x00 })
      (fun t => (t.pc, t.fault)) =
      some (0xC002, some (.malformedCartridgeAddr 0x0000)) := by
  decide

/-- JP C not taken (R361). -/
theorem test_v153_jp_c_not_taken :
    after (placed 0xC000 [0xDA, 0x00, 0xD0] { State.reset with pc := 0xC000, f := 0x00 })
      (fun t => (t.pc)) =
      some (0xC003) := by
  decide

/-- JP HL (R362). -/
theorem test_v154_jp_hl :
    after (placed 0xC000 [0xE9] { State.reset with pc := 0xC000, h := 0xD1, l := 0x23 })
      (fun t => (t.pc)) =
      some (0xD123) := by
  decide

/-- JR -128 (R363). -/
theorem test_v157_jr_128 :
    after (placed 0xC000 [0x18, 0x80] { State.reset with pc := 0xC000 })
      (fun t => (t.pc)) =
      some (0xBF82) := by
  decide

/-- JR +1 at 0xFFFE (PC wraps) (R363). -/
theorem test_v158_jr_1_at_0xfffe :
    after (placed 0xFFFE [0x18, 0x01] { State.reset with pc := 0xFFFE })
      (fun t => (t.pc)) =
      some (0x0001) := by
  decide

/-- JR NC not taken (R364). -/
theorem test_v162_jr_nc_not_taken :
    after (placed 0xC000 [0x30, 0x10] { State.reset with pc := 0xC000, f := 0x10 })
      (fun t => (t.pc)) =
      some (0xC002) := by
  decide

/-- JR C taken -3 (R364). -/
theorem test_v163_jr_c_taken_3 :
    after (placed 0xC000 [0x38, 0xFD] { State.reset with pc := 0xC000, f := 0x10 })
      (fun t => (t.pc)) =
      some (0xBFFF) := by
  decide

/-- CALL nn (R365). -/
theorem test_v164_call_nn :
    after (placed 0xC000 [0xCD, 0x34, 0xD2] { State.reset with pc := 0xC000, sp := 0xFFFE })
      (fun t => (t.sp, t.pc, peek t 0xFFFC, peek t 0xFFFD)) =
      some (0xFFFC, 0xD234, 0x03, 0xC0) := by
  decide

/-- CALL NZ not taken (R366). -/
theorem test_v165_call_nz_not_taken :
    after (placed 0xC000 [0xC4, 0x34, 0xD2] { State.reset with pc := 0xC000, f := 0x80, sp := 0xFFFE })
      (fun t => (t.pc)) =
      some (0xC003) := by
  decide

/-- RET Z not taken (R368). -/
theorem test_v171_ret_z_not_taken :
    after (placed 0xC000 [0xC8] (placed 0xFFFD [0xC0] (placed 0xFFFC [0x03] { State.reset with pc := 0xC000, f := 0x00, sp := 0xFFFC })))
      (fun t => (t.pc)) =
      some (0xC001) := by
  decide

/-- RET Z taken (R368). -/
theorem test_v170_ret_z_taken :
    after (placed 0xC000 [0xC8] (placed 0xFFFD [0xC0] (placed 0xFFFC [0x03] { State.reset with pc := 0xC000, f := 0x80, sp := 0xFFFC })))
      (fun t => (t.sp, t.pc)) =
      some (0xFFFE, 0xC003) := by
  decide

/-- RETI cancels a pending EI (R369). -/
theorem test_v174_reti_cancels_a_pending_ei :
    after (placed 0xC000 [0xD9] (placed 0xFFFD [0xC0] (placed 0xFFFC [0x03] { State.reset with pc := 0xC000, sp := 0xFFFC, imeDelay := 1 })))
      (fun t => (t.sp, t.pc, t.ime, t.imeDelay)) =
      some (0xFFFE, 0xC003, true, 0) := by
  decide

/-- RST 0x38 (R370). -/
theorem test_v175_rst_0x38 :
    after (placed 0xC000 [0xFF] { State.reset with pc := 0xC000, sp := 0xFFFE })
      (fun t => (t.sp, t.pc, peek t 0xFFFC, peek t 0xFFFD)) =
      some (0xFFFC, 0x0038, 0x01, 0xC0) := by
  decide

/-- NOP (R380). -/
theorem test_v178_nop :
    after (placed 0xC000 [0x00] { State.reset with pc := 0xC000 })
      (fun t => (t.pc)) =
      some (0xC001) := by
  decide

/-- HALT (R381). -/
theorem test_v179_halt :
    after (placed 0xC000 [0x76] { State.reset with pc := 0xC000 })
      (fun t => (t.pc, t.halted)) =
      some (0xC001, true) := by
  decide

/-- HALT with ime=0 and a pending source (HaltBug (D23)) (R381). -/
theorem test_v181_halt_with_ime_0_and_a_pending_source :
    after (placed 0xC000 [0x76] (placed 0xFF0F [0x01] (placed 0xFFFF [0x01] { State.reset with pc := 0xC000 })))
      (fun t => (t.pc, t.fault)) =
      some (0xC001, some (.unmodelled .haltBug)) := by
  decide

/-- STOP (D24) (R382). -/
theorem test_v183_stop :
    after (placed 0xC000 [0x10, 0x00] { State.reset with pc := 0xC000 })
      (fun t => (t.pc, t.fault)) =
      some (0xC001, some (.unmodelled .stop)) := by
  decide

/-- DI cancels a pending EI (R383). -/
theorem test_v185_di_cancels_a_pending_ei :
    after (placed 0xC000 [0xF3] { State.reset with pc := 0xC000, imeDelay := 1 })
      (fun t => (t.pc, t.imeDelay)) =
      some (0xC001, 0) := by
  decide

/-- EI (R384). -/
theorem test_v186_ei :
    after (placed 0xC000 [0xFB] { State.reset with pc := 0xC000 })
      (fun t => (t.pc, t.imeDelay)) =
      some (0xC001, 1) := by
  decide

/-- illegal 0xD3 (R385). -/
theorem test_v190_illegal_0xd3 :
    after (placed 0xC000 [0xD3] { State.reset with pc := 0xC000 })
      (fun t => (t.pc, t.fault)) =
      some (0xC001, some (.unimplementedOpcode 0xD3 0xC000)) := by
  decide

/-- priority: Timer over Joypad (R414). -/
theorem test_v193_priority_timer_over_joypad :
    after (placed 0xC000 [0x00] (placed 0xFF0F [0x14] (placed 0xFFFF [0x1F] { State.reset with pc := 0xC000, sp := 0xFFFE, ime := true })))
      (fun t => (t.sp, t.pc, t.ime, peek t 0xFF0F, peek t 0xFFFD)) =
      some (0xFFFC, 0x0050, false, 0x10, 0xC0) := by
  decide

/-- bits 7..5 ignored (no dispatch) (R413). -/
theorem test_v195_bits_7_5_ignored :
    after (placed 0xC000 [0x00] (placed 0xFF0F [0xE0] (placed 0xFFFF [0xE0] { State.reset with pc := 0xC000, sp := 0xFFFE, ime := true })))
      (fun t => (t.pc)) =
      some (0xC001) := by
  decide

/-- wake from HALT with ime=0 (the INC B at 0xC001 runs in the waking step; IF is not cleared) (R416). -/
theorem test_v196_wake_from_halt_with_ime_0 :
    after (placed 0xC001 [0x04] (placed 0xFF0F [0x04] (placed 0xFFFF [0x04] (placed 0xC000 [0x76] { State.reset with halted := true, pc := 0xC001 }))))
      (fun t => (t.b, t.pc, t.halted)) =
      some (0x01, 0xC002, false) := by
  decide

/-- dispatch with SP=0x0001 (D39) (R418). -/
theorem test_v199_dispatch_with_sp_0x0001 :
    after (placed 0xC000 [0x00] (placed 0xFF0F [0x01] (placed 0xFFFF [0x01] { State.reset with pc := 0xC000, sp := 0x0001, ime := true })))
      (fun t => (t.pc, t.fault)) =
      some (0xC000, some (.unmodelled .iePushDispatch)) := by
  decide

/-- dispatch with SP=0x0002, kind None (the push faults at 0x0000) (R418). -/
theorem test_v200_dispatch_with_sp_0x0002_kind_none :
    after (placed 0xC000 [0x00] (placed 0xFF0F [0x01] (placed 0xFFFF [0x01] { State.reset with pc := 0xC000, sp := 0x0002, ime := true })))
      (fun t => (t.sp, t.pc, t.ime, peek t 0xFF0F, t.fault)) =
      some (0x0000, 0xC000, false, 0x00, some (.malformedCartridgeAddr 0x0000)) := by
  decide

/-- INTERRUPT_DISPATCH = false (no dispatch) (R422). -/
theorem test_v202_interrupt_dispatch_false :
    after (placed 0xC000 [0x00] (placed 0xFF0F [0x01] (placed 0xFFFF [0x01] { State.reset with pc := 0xC000, sp := 0xFFFE, ime := true, cfg := noDispatch })))
      (fun t => (t.pc)) =
      some (0xC001) := by
  decide

/-- write external RAM, kind None (D13) (R93). -/
theorem test_v208_write_external_ram_kind_none :
    after (placed 0xC000 [0xEA, 0x00, 0xA0] { State.reset with pc := 0xC000, a := 0x01 })
      (fun t => (t.pc, t.fault)) =
      some (0xC003, some (.malformedCartridgeAddr 0xA000)) := by
  decide

/-- write ROM, kind MBC1 (MBC1_MODE = Fatal) (R98). -/
theorem test_v210_write_rom_kind_mbc1 :
    after (placed 0xC000 [0xEA, 0x00, 0x20] { State.reset with pc := 0xC000, a := 0x01, kind := classify 0x01 })
      (fun t => (t.pc, t.fault)) =
      some (0xC003, some (.malformedCartridgeAddr 0x2000)) := by
  decide

/-- MBC3 enable by 0x1A (low nibble) (R103). -/
theorem test_v213_mbc3_enable_by_0x1a :
    after (placed 0xC000 [0xEA, 0xFF, 0x1F] { State.reset with pc := 0xC000, a := 0x1A, kind := classify 0x13 })
      (fun t => (t.pc, t.ramEnabled)) =
      some (0xC003, true) := by
  decide

/-- MBC3 value 0 selects bank 1 (R104). -/
theorem test_v216_mbc3_value_0_selects_bank_1 :
    after (placed 0xC000 [0xEA, 0x00, 0x20] { State.reset with pc := 0xC000, a := 0x00, kind := classify 0x13, romLen := 0x10000, romBankOffset := 0x8000 })
      (fun t => (t.pc, t.romBankOffset)) =
      some (0xC003, 0x4000) := by
  decide

/-- MBC3 value 0x82 selects bank 2 (bit 7 dropped) (R104). -/
theorem test_v217_mbc3_value_0x82_selects_bank_2 :
    after (placed 0xC000 [0xEA, 0xFF, 0x3F] { State.reset with pc := 0xC000, a := 0x82, kind := classify 0x13, romLen := 0x10000 })
      (fun t => (t.pc, t.romBankOffset)) =
      some (0xC003, 0x8000) := by
  decide

/-- MBC3 bank beyond the image (R95). -/
theorem test_v218_mbc3_bank_beyond_the_image :
    after (placed 0xC000 [0xEA, 0x00, 0x20] { State.reset with pc := 0xC000, a := 0x02, kind := classify 0x13, romLen := 0x8000 })
      (fun t => (t.pc, t.fault)) =
      some (0xC003, some (.malformedCartridgeOffset 0x8000)) := by
  decide

/-- MBC3 RAM bank 4 with EXT_RAM_SIZE = 0x8000 (R94). -/
theorem test_v220_mbc3_ram_bank_4_with_ext_ram_size_0x8000 :
    after (placed 0xC000 [0xFA, 0x00, 0xA0] { State.reset with pc := 0xC000, kind := classify 0x13, ramEnabled := true, ramBank := 0x04 })
      (fun t => (t.pc, t.fault)) =
      some (0xC003, some (.malformedCartridgeAddr 0xA000)) := by
  decide

/-- MBC2 0x0000-0x1FFF with bit 8 set (R100). -/
theorem test_v224_mbc2_0x0000_0x1fff_with_bit_8_set :
    after (placed 0xC000 [0xEA, 0x00, 0x01] { State.reset with pc := 0xC000, a := 0x0A, kind := classify 0x05 })
      (fun t => (t.pc, t.fault)) =
      some (0xC003, some (.illegalWrite 0x0100 0x0A)) := by
  decide

/-- MBC2 ROM bank 3 (low 4 bits) (R101). -/
theorem test_v225_mbc2_rom_bank_3 :
    after (placed 0xC000 [0xEA, 0x00, 0x21] { State.reset with pc := 0xC000, a := 0xF3, kind := classify 0x05, romLen := 0x10000 })
      (fun t => (t.pc, t.romBankOffset)) =
      some (0xC003, 0xC000) := by
  decide

/-- MBC2 0x2000-0x3FFF with bit 8 clear (R101). -/
theorem test_v227_mbc2_0x2000_0x3fff_with_bit_8_clear :
    after (placed 0xC000 [0xEA, 0x00, 0x20] { State.reset with pc := 0xC000, a := 0x01, kind := classify 0x05 })
      (fun t => (t.pc, t.fault)) =
      some (0xC003, some (.illegalWrite 0x2000 0x01)) := by
  decide

/-- MBC5 high bit from bit 0 only (0xFE & 1 = 0: bank stays 1) (R108). -/
theorem test_v231_mbc5_high_bit_from_bit_0_only :
    after (placed 0xC000 [0xEA, 0x00, 0x30] { State.reset with pc := 0xC000, a := 0xFE, kind := classify 0x19 })
      (fun t => (t.pc)) =
      some (0xC003) := by
  decide

/-- MBC5 high bit beyond the image (bank 0x101) (R108). -/
theorem test_v232_mbc5_high_bit_beyond_the_image :
    after (placed 0xC000 [0xEA, 0x00, 0x30] { State.reset with pc := 0xC000, a := 0x01, kind := classify 0x19, romLen := 0x8000 })
      (fun t => (t.mbc5Hi, t.fault)) =
      some (1, some (.malformedCartridgeOffset 0x404000)) := by
  decide

/-- MBC5 write 0x6000 (R110). -/
theorem test_v234_mbc5_write_0x6000 :
    after (placed 0xC000 [0xEA, 0x00, 0x60] { State.reset with pc := 0xC000, a := 0x01, kind := classify 0x19 })
      (fun t => (t.pc, t.fault)) =
      some (0xC003, some (.illegalWrite 0x6000 0x01)) := by
  decide

/-! ## Witnesses: for each statement with hypotheses, states and operands that meet them, clause by clause -/

/-- A machine about to run bytes in work RAM. -/
def run (bytes : List Byte) : State := placed 0xC000 bytes { State.reset with pc := 0xC000, sp := 0xD000 }

/-- An MBC5 machine whose external RAM is enabled and whose bank lies beyond it: every read there faults. -/
def beyond : State := { State.reset with kind := .mbc5, ramEnabled := true, ramBank := 4 }

/-- A state with the VBlank interrupt requested and enabled. -/
def requested (s : State) : State := { s with ie := 0x01, mem := Memory.write s.mem 0xFF0F 0x01 }

/-- An address in external RAM with enabled RAM ending before it faults on reading. -/
def faultAt (a : Word) : FaultRecord := .malformedCartridgeAddr a

theorem witness_DecodeOfEncode : Instr.nop.WellFormed ∧ (Instr.jpNn 0xFFFF).WellFormed ∧ Instr.set7A.WellFormed := by
  decide

theorem witness_EncodeOfDecode :
    decode [0x06, 0xFF, 0x00] = .ok (.ldBN 0xFF, [0x00]) ∧ decode [0xCB, 0xFF] = .ok (.set7A, []) := ⟨rfl, rfl⟩

theorem witness_DecodeRejectsOnlyShortInput :
    decode [] = .error .empty ∧ decode [0xC3, 0x50] = .error (.truncated 0xC3) ∧
      ([0x50] : List Byte).length < operandBytes 0xC3 := by decide

theorem witness_StepRunsDecodedInstruction :
    (run [0x3C]).fault = none ∧ ¬ dispatchDue (wake (run [0x3C])) ∧ (wake (run [0x3C])).halted = false ∧
      decode [0x3C] = .ok (.incA, []) ∧
      ∀ (k : Nat) (v : Byte), ([0x3C] : List Byte)[k]? = some v →
        busRead (run [0x3C]) ((run [0x3C]).pc + BitVec.ofNat 16 k) = .ok v := by
  refine ⟨by decide, by decide, by decide, rfl, fun k v h => ?_⟩
  match k with
  | 0 =>
    have hv : 0x3C = v := by simpa using h
    subst hv
    decide
  | k + 1 => simp at h

theorem witness_FaultsEndSteps :
    { State.reset with fault := some (faultAt 0) }.fault = some (faultAt 0) ∧
      ({ beyond with pc := 0xA000 }.fault = none ∧ ¬ dispatchDue (wake { beyond with pc := 0xA000 }) ∧
        (wake { beyond with pc := 0xA000 }).halted = false ∧
        busRead { beyond with pc := 0xA000 } { beyond with pc := 0xA000 }.pc = .error (faultAt 0xA000)) := by decide

/-- Halted with nothing pending; halted with dispatch off and a source pending; halted with `ime` clear and a source
pending; running with dispatch off. -/
theorem witness_HaltedMachine :
    ({ State.reset with halted := true }.fault = none ∧ pending { State.reset with halted := true } = 0) ∧
      (requested { State.reset with halted := true, cfg := noDispatch }).cfg.interruptDispatch = false ∧
      (let s := requested { State.reset with halted := true };
        s.fault = none ∧ s.halted = true ∧ s.cfg.interruptDispatch = true ∧ s.ime = false ∧ pending s ≠ 0) ∧
      (let s := requested { State.reset with cfg := noDispatch };
        s.fault = none ∧ s.halted = false ∧ s.cfg.interruptDispatch = false) := by decide

theorem witness_PendingAndPriority :
    busRead (requested State.reset) 0xFF0F = .ok 0x01 ∧ pending (requested State.reset) ≠ 0 ∧
      pending { requested State.reset with ie := 0x14, mem := [(0xFF0F, 0x14)] } ≠ 0 ∧
      (2 : Nat) < (lowestSource 0x18).val := by decide

/-- The stack in work RAM, at both ends of video RAM, over IE and over IF; and, with every kind of controller, in each
controller window, in external RAM and in the unusable range. -/
theorem witness_DispatchEntersHandler :
    ([0xD000, 0x8002, 0xA000, 0xFF10, 0xFFFF] : List Word).all (fun sp =>
      let s := requested { State.reset with sp := sp, ime := true }
      decide (s.fault = none ∧ s.cfg.interruptDispatch = true ∧ s.ime = true ∧ pending s ≠ 0 ∧ s.sp ≠ 0x0000 ∧
        s.sp ≠ 0x0001 ∧ stored (s.sp - 2) ∧ stored (s.sp - 1))) = true ∧
      [CartKind.noMbc, .mbc1, .mbc2, .mbc3, .mbc5].all (fun kind =>
        ([0x0002, 0x2002, 0x4002, 0x6002, 0x8000, 0xA002, 0xC000, 0xFEA2, 0xFF00] : List Word).all (fun sp =>
          let s := requested { State.reset with kind := kind, sp := sp, ime := true, halted := true }
          decide (s.fault = none ∧ s.cfg.interruptDispatch = true ∧ s.ime = true ∧ pending s ≠ 0 ∧ s.sp ≠ 0x0000 ∧
            s.sp ≠ 0x0001 ∧ ¬ (stored (s.sp - 2) ∧ stored (s.sp - 1))))) = true := by decide

theorem witness_DispatchFaults :
    ([0x0000, 0x0001, 0x0002, 0x8001] : List Word).all (fun sp =>
      let s := requested { State.reset with sp := sp, ime := true }
      decide (s.fault = none ∧ s.cfg.interruptDispatch = true ∧ s.ime = true ∧ pending s ≠ 0 ∧
        ((s.sp = 0x0000 ∨ s.sp = 0x0001) ∨ (s.kind = .noMbc ∧ 2 ≤ s.sp.toNat ∧ s.sp.toNat ≤ 0x8001)))) = true := by
  decide

theorem witness_ImageKindAndParametersNeverChange : ∃ t, step State.reset = .next t := ⟨_, rfl⟩

/-- A step that writes to the controller, with each kind of controller: here an MBC5 machine. -/
theorem witness_BankStateMovesOnlyByItsController :
    after { run [0xEA, 0x00, 0x20] with kind := .mbc5, a := 0 }
        (fun t => (t.mbc5Lo, t.romBankOffset)) = some (0, 0) ∧
      { run [0xEA, 0x00, 0x20] with kind := .mbc5 }.kind ≠ .mbc1 ∧ (run [0x00]).kind = .noMbc ∧
      (run [0x00]).kind ≠ .mbc5 := by decide

/-- `ime` set at the end of the instruction after EI and by RETI, cleared by DI and by a dispatch; the delay started by
EI. -/
theorem witness_ImeChangesOnlyByRule :
    after { run [0x00] with imeDelay := 1 } (fun t => t.ime) = some true ∧ after (run [0xD9]) (fun t => t.ime) = some true ∧
      after { run [0xF3] with ime := true } (fun t => t.ime) = some false ∧
      after (requested { run [0x00] with ime := true }) (fun t => t.ime) = some false ∧
      (run [0xFB]).imeDelay = 0 ∧ after (run [0xFB]) (fun t => t.imeDelay) = some 1 := by decide

theorem witness_HaltEntryAndExit :
    after (run [0x76]) (fun t => t.halted) = some true ∧
      after (requested { run [0x00] with halted := true }) (fun t => t.halted) = some false := by decide

theorem witness_DelayEndsWithTheNextInstruction :
    let s := { run [0x00] with imeDelay := 1 }
    after s (fun t => t.fault) = some none ∧ ¬ dispatchDue (wake s) ∧ (wake s).halted = false ∧ s.imeDelay = 1 ∧
      busRead s s.pc ≠ .ok 0xFB ∧ busRead s s.pc ≠ .ok 0xF3 := by decide

/-- The power-on state has the invariant, field by field, and has a next state. -/
theorem witness_StepKeepsInvariant : State.reset.Inv ∧ ∃ t, step State.reset = .next t :=
  ⟨⟨by decide, by decide, by decide, by decide, by decide, by decide, by decide, by decide, by decide, by decide, by decide,
    by decide, fun _ => rfl, by decide⟩, _, rfl⟩

theorem witness_HostKeepsInvariant :
    (∃ s, launch {} (List.replicate 0x8000 0) = some s) ∧ State.reset.Inv ∧
      (∃ t, hostMove .reset State.reset = some t) ∧ (∃ t, hostMove (.injectIo 0x0F 0xFF) State.reset = some t) ∧
      ∃ t, hostMove (.injectIe 0xFF) State.reset = some t := by
  refine ⟨?_, witness_StepKeepsInvariant.1, ⟨_, rfl⟩, ⟨_, rfl⟩, ⟨_, rfl⟩⟩
  unfold launch
  rw [List.length_replicate]
  exact ⟨_, rfl⟩

theorem witness_StepWithoutFaultReturnsCost :
    after (run [0x00]) (fun t => t.fault) = some none ∧
      after (run [0xCD, 0x00, 0xC1]) (fun t => t.fault) = some none := by decide

/-- Each of the four forms, its condition holding and not holding. -/
theorem witness_ConditionDecidesCost :
    (∀ op ∈ ([0x20, 0xC2, 0xC4, 0xC0] : List Byte),
      (run [op]).fault = none ∧ ¬ dispatchDue (run [op]) ∧ (run [op]).halted = false ∧
        busRead (run [op]) (run [op]).pc = .ok op) ∧
      decodeBytes 0x20 1 2 = .jrCond .nz 1 ∧ decodeBytes 0xC2 1 2 = .jpCond .nz (wordOf 2 1) ∧
      decodeBytes 0xC4 1 2 = .callCond .nz (wordOf 2 1) ∧ decodeBytes 0xC0 1 2 = .retCond .nz ∧
      condHolds (run [0x20]) .nz ∧ ¬ condHolds { run [0x20] with f := 0x80 } .nz := by
  refine ⟨by decide, rfl, rfl, rfl, rfl, ?_, ?_⟩ <;> unfold condHolds <;> decide

theorem witness_PowerOnAndReset :
    stored 0x8000 ∧ stored 0xFFFF ∧ State.reset.fault = none ∧
      { State.reset with fault := some (faultAt 0) }.fault ≠ none := by decide

/-- The image of 0x8000 bytes, refused with bank 2 and accepted with bank 1; the ends of both windows. -/
theorem witness_LaunchRefusesOrMapsImage :
    launch { initialRomBank := 2 } (List.replicate 0x8000 0) = none ∧ (∃ s, launch {} (List.replicate 0x8000 0) = some s) ∧
      (0x3FFF#16).toNat < 0x4000 ∧ 0x4000 ≤ (0x4000#16).toNat ∧ (0x7FFF#16).toNat < 0x8000 ∧ stored 0x8000 ∧
      stored 0xFFFF := by
  refine ⟨?_, ?_, by decide, by decide, by decide, by decide, by decide⟩
  · unfold launch
    rw [List.length_replicate]
    rfl
  · unfold launch
    rw [List.length_replicate]
    exact ⟨_, rfl⟩

theorem witness_LaunchClassifiesHeader :
    ∀ header : Byte, (∃ s, launch {} (List.replicate 0x8000 header) = some s) ∧
      (List.replicate 0x8000 header).getD 0x0147 0 = header := by
  intro header
  constructor
  · unfold launch
    rw [List.length_replicate]
    exact ⟨_, rfl⟩
  · rw [List.getD_eq_getElem?_getD, List.getElem?_replicate]
    rfl

/-- The ends of the ranges that store. -/
theorem witness_stored_ranges :
    ([0x8000, 0x9FFF, 0xC000, 0xDFFF, 0xE000, 0xFDFF, 0xFE00, 0xFE9F, 0xFF00, 0xFF7F, 0xFF80, 0xFFFE, 0xFFFF] :
      List Word).all (fun a => decide (stored a)) = true ∧
      ([0x0000, 0x7FFF, 0xA000, 0xBFFF, 0xFEA0, 0xFEFF] : List Word).all (fun a => decide (¬ stored a)) = true := by
  decide

theorem witness_StoredByteReadsBack : stored 0x8000 ∧ stored 0xFE9F ∧ stored 0xFFFF ∧ home 0xE000 ≠ home 0xC001 := by decide

theorem witness_EchoIsWorkRam :
    (0xE000 ≤ (0xE000#16).toNat ∧ (0xFDFF#16).toNat ≤ 0xFDFF) ∧ (0xC000 ≤ (0xDDFF#16).toNat ∧ (0xDDFF#16).toNat ≤ 0xDDFF) ∧
      (0xDE00 ≤ (0xDE00#16).toNat ∧ (0xDFFF#16).toNat ≤ 0xDFFF) ∧
      memWrite 0xDE00 1 State.reset = .ok () { State.reset with mem := [(0xDE00, 1)] } := by decide

theorem witness_RomAndUnusableRange :
    (0xFEA0 ≤ (0xFEA0#16).toNat ∧ (0xFEFF#16).toNat ≤ 0xFEFF) ∧
      (0xA000 ≤ (0xA000#16).toNat ∧ (0xBFFF#16).toNat ≤ 0xBFFF ∧ State.reset.ramEnabled = false) ∧ State.reset.Inv ∧
      (0x3FFF#16).toNat ≤ 0x3FFF ∧ 0x4000 ≤ (0x4000#16).toNat ∧ (0x7FFF#16).toNat ≤ 0x7FFF :=
  ⟨by decide, by decide, witness_StepKeepsInvariant.1, by decide, by decide, by decide⟩

/-- The last byte inside external RAM reads, the first beyond it faults. -/
theorem witness_ReadFaultsExactly :
    busRead beyond 0xA000 = .error (faultAt 0xA000) ∧ busRead beyond 0xBFFF = .error (faultAt 0xBFFF) ∧
      busRead { beyond with ramBank := 3 } 0xBFFF = .ok 0 := by decide

/-- The last byte of the last bank inside external RAM and the first byte beyond it; disabled; without a controller. -/
theorem witness_ExternalRamWrites :
    State.reset.kind = .noMbc ∧ State.reset.ramEnabled = false ∧
      ({ beyond with ramEnabled := false }.kind ≠ .noMbc ∧ { beyond with ramEnabled := false }.ramEnabled = false) ∧
      (beyond.kind ≠ .noMbc ∧ beyond.ramEnabled = true ∧
        0x8000 = beyond.ramBank.toNat * 0x2000 + ((0xA000#16).toNat - 0xA000) ∧ beyond.cfg.extRamSize ≤ 0x8000) ∧
      (0x7FFF = { beyond with ramBank := 3 }.ramBank.toNat * 0x2000 + ((0xBFFF#16).toNat - 0xA000) ∧
        0x7FFF < { beyond with ramBank := 3 }.cfg.extRamSize) := by decide

/-- A read and a store in bank 3 use the byte of bank 3: 20_memory.md R92, R93 and R94 (as vector V219). -/
theorem test_external_ram_is_banked :
    let s := { beyond with ramBank := 3, extRam := [(0x0005, 0x11), (0x6005, 0x33)] }
    busRead s 0xA005 = .ok 0x33 ∧
      memWrite 0xA005 0x44 s = .ok () { s with extRam := [(0x0005, 0x11), (0x6005, 0x44)] } := by decide

theorem witness_RomBankSelection :
    1 * 0x4000 + 0x4000 ≤ State.reset.romLen ∧ State.reset.romLen < 2 * 0x4000 + 0x4000 := by decide

/-- Both kinds without a handler, and the MBC1 windows with a bank inside and a bank outside the image. -/
theorem witness_NoHandlerAndMbc1Writes :
    noHandler State.reset ∧ noHandler { State.reset with kind := .mbc1 } ∧
      (let s := { State.reset with kind := .mbc1, cfg := { mbc1Mode := .standard } };
        s.kind = .mbc1 ∧ s.cfg.mbc1Mode = .standard ∧
        (0 * 32 + s.mbc1BankLo.toNat) * 0x4000 + 0x4000 ≤ s.romLen ∧
        s.romLen < (3 * 32 + s.mbc1BankLo.toNat) * 0x4000 + 0x4000) ∧
      (0x1FFF#16).toNat ≤ 0x1FFF ∧ 0x2000 ≤ (0x2000#16).toNat ∧ (0x3FFF#16).toNat ≤ 0x3FFF ∧
      0x4000 ≤ (0x4000#16).toNat ∧ (0x5FFF#16).toNat ≤ 0x5FFF ∧ 0x6000 ≤ (0x6000#16).toNat := by decide

theorem witness_Mbc2AndMbc3Writes :
    { State.reset with kind := .mbc2 }.kind = .mbc2 ∧ { State.reset with kind := .mbc3 }.kind = .mbc3 ∧
      ((0x1EFF#16).toNat ≤ 0x1FFF ∧ (0x1EFF#16).toNat / 256 % 2 = 0) ∧
      ((0x3FFF#16).toNat ≤ 0x3FFF ∧ (0x3FFF#16).toNat / 256 % 2 = 1) ∧ (0x1FFF#16).toNat / 256 % 2 = 1 ∧
      (0x2000#16).toNat / 256 % 2 = 0 ∧ (0x4000 ≤ (0x4000#16).toNat ∧ (0x7FFF#16).toNat ≤ 0x7FFF) := by decide

theorem witness_Mbc5Writes :
    { State.reset with kind := .mbc5 }.kind = .mbc5 ∧ (0x1FFF#16).toNat ≤ 0x1FFF ∧ 0x2000 ≤ (0x2000#16).toNat ∧
      (0x2FFF#16).toNat ≤ 0x2FFF ∧ 0x3000 ≤ (0x3000#16).toNat ∧ (0x3FFF#16).toNat ≤ 0x3FFF ∧
      0x4000 ≤ (0x4000#16).toNat ∧ (0x5FFF#16).toNat ≤ 0x5FFF ∧ 0x6000 ≤ (0x6000#16).toNat := by decide

/-- Every form of load, from the power-on state, and one that faults. -/
theorem witness_LoadFromMemory :
    (∀ dst, Loads8 State.reset (.ldRegMemHL dst) dst 0) ∧ Loads8 State.reset .ldAMemBC .a 0 ∧
      Loads8 State.reset .ldAMemDE .a 0 ∧ Loads8 State.reset (.ldAMemNn 0xFFFF) .a 0xFFFF ∧
      Loads8 State.reset (.ldhAMemN 0xFF) .a 0xFFFF ∧ Loads8 State.reset .ldAMemC .a 0xFF00 ∧
      busRead State.reset 0xFFFF = .ok 0 ∧
      (Loads8 beyond (.ldAMemNn 0xA000) .a 0xA000 ∧ busRead beyond 0xA000 = .error (faultAt 0xA000)) :=
  ⟨fun dst => .memHL dst, .memBC, .memDE, .memNn _, .high 0xFF, .highC, by decide, .memNn _, by decide⟩

/-- HL readable and at its wrap; HL beyond external RAM; HL stored; HL in ROM. -/
theorem witness_LoadOrStoreAndStepHl :
    busRead { State.reset with h := 0xFF, l := 0xFF } { State.reset with h := 0xFF, l := 0xFF }.hl = .ok 0 ∧
      busRead { beyond with h := 0xA0 } { beyond with h := 0xA0 }.hl = .error (faultAt 0xA000) ∧
      stored { State.reset with h := 0xFF, l := 0xFF }.hl ∧
      (memWrite State.reset.hl State.reset.a State.reset =
        .raised { State.reset with fault := some (faultAt 0) }) ∧
      memWrite { State.reset with h := 0xFE, l := 0xA0 }.hl 0 { State.reset with h := 0xFE, l := 0xA0 } =
        .ok () { State.reset with h := 0xFE, l := 0xA0 } := by decide

theorem witness_StoreToMemory :
    (∀ r, Stores8 { State.reset with h := 0xC0 } (.ldMemHLReg r) 0xC000 ({ State.reset with h := 0xC0 }.reg r)) ∧
      Stores8 { State.reset with h := 0xC0 } (.ldMemHLN 7) 0xC000 7 ∧ Stores8 State.reset .ldMemBCA 0 0 ∧
      Stores8 State.reset .ldMemDEA 0 0 ∧ Stores8 State.reset (.ldMemNnA 0x8000) 0x8000 0 ∧
      Stores8 State.reset (.ldhMemNA 0xFF) 0xFFFF 0 ∧ Stores8 State.reset .ldMemCA 0xFF00 0 ∧
      stored 0xC000 ∧ stored (0xFFFE : Word) ∧ stored (0xFFFE + 1 : Word) :=
  ⟨fun r => .memHL r, .memHLImm 7, .memBC, .memDE, .memNn _, .high 0xFF, .highC, by decide, by decide, by decide⟩

/-- Each of the three shapes. -/
theorem witness_PairLoadsAndSteps :
    (Instr.ldPairNn .sp 0xFFFE = .ldSPNn 0xFFFE) ∧ (Instr.incPair .bc = .incBC) ∧ Instr.decPair .hl = .decHL := by decide

/-- The stack in memory, at its wrap, and beyond external RAM with its first or its second byte. -/
theorem witness_PushAndPop :
    ([0xFFFE, 0x0000, 0x8002] : List Word).all (fun sp => decide (stored (sp - 2) ∧ stored (sp - 1))) = true ∧
      (busRead { State.reset with sp := 0xFFFF } 0xFFFF = .ok 0 ∧ busRead State.reset (0xFFFF + 1) = .ok 0) ∧
      busRead { beyond with sp := 0xA000 } 0xA000 = .error (faultAt 0xA000) ∧
      (busRead beyond 0x9FFF = .ok 0 ∧ busRead beyond (0x9FFF + 1) = .error (faultAt 0xA000)) := by decide

/-- The three operand forms of every ALU operation. -/
theorem witness_alu_operands (op : AluOp) :
    AluOperand State.reset op (.aluReg op .b) 0 ∧ AluOperand State.reset op (.aluMemHL op) 0 ∧
      AluOperand State.reset op (.aluN op 0xFF) 0xFF := ⟨.reg .b, .memHL 0 (by decide), .imm 0xFF⟩

theorem witness_AddToA : AluOperand State.reset .add .addAMemHL 0 := .memHL 0 (by decide)

theorem witness_AddAndSubtractWithCarry :
    (1 = if { State.reset with f := 0x10 }.f.getLsbD 4 then 1 else 0) ∧
      AluOperand { State.reset with f := 0x10 } .adc (.adcAN 0xFF) 0xFF ∧
      AluOperand { State.reset with f := 0x10 } .sbc (.sbcAN 0xFF) 0xFF := ⟨by decide, .imm 0xFF, .imm 0xFF⟩

theorem witness_SubtractAndCompare :
    AluOperand State.reset .sub (.subN 1) 1 ∧ AluOperand State.reset .cp (.cpN 0) 0 := ⟨.imm 1, .imm 0⟩

theorem witness_LogicWithA :
    AluOperand State.reset .and (.andN 1) 1 ∧ AluOperand State.reset .or (.orN 1) 1 ∧
      AluOperand State.reset .xor (.xorN 1) 1 := ⟨.imm 1, .imm 1, .imm 1⟩

/-- A machine with HL at a byte of work RAM that holds `v`. -/
def holding (v : Byte) : State := placed 0xC000 [v] { State.reset with h := 0xC0 }

/-- Every shape of read-modify-write on a byte in work RAM, and a read that faults. -/
theorem witness_ModifyMemory :
    (([0x00, 0x80, 0xFF] : List Byte).all (fun v =>
      decide (busRead (holding v) (holding v).hl = .ok v ∧ stored (holding v).hl)) = true ∧
      Replaces (holding 0xFF) 0xFF 0x00 .incMemHL (some { z := true, n := false, h := true, c := false }) ∧
      Replaces (holding 0x00) 0x00 0xFF .decMemHL (some { z := false, n := true, h := true, c := false }) ∧
      Replaces (holding 0x80) 0x80 0x01 (.rotMemHL .rlc) (some { z := false, n := false, h := false, c := true }) ∧
      Replaces (holding 0xFF) 0xFF 0x7F (.resMemHL 7) none ∧ Replaces (holding 0x00) 0x00 0x01 (.setMemHL 0) none) ∧
      busRead { beyond with h := 0xA0 } { beyond with h := 0xA0 }.hl = .error (faultAt 0xA000) := by
  have beyond8 : ∀ (v : Byte) (j : Nat), 8 ≤ j → v.getLsbD j = false := fun v j h => BitVec.getLsbD_of_ge v j h
  have h7 : ∀ j : Nat, (0x7F#8).getLsbD j = (decide (j ≠ (7 : Fin 8).val) && (0xFF#8).getLsbD j) := by
    intro j
    rcases Nat.lt_or_ge j 8 with h | h
    · exact (by decide : ∀ k : Fin 8, (0x7F#8).getLsbD k.val = (decide (k.val ≠ (7 : Fin 8).val) && (0xFF#8).getLsbD k.val))
        ⟨j, h⟩
    · rw [beyond8 _ j h, beyond8 _ j h, Bool.and_false]
  have h0 : ∀ j : Nat, (0x01#8).getLsbD j = (decide (j = (0 : Fin 8).val) || (0x00#8).getLsbD j) := by
    intro j
    rcases Nat.lt_or_ge j 8 with h | h
    · exact (by decide : ∀ k : Fin 8, (0x01#8).getLsbD k.val = (decide (k.val = (0 : Fin 8).val) || (0x00#8).getLsbD k.val))
        ⟨j, h⟩
    · have : ¬ j = (0 : Fin 8).val := fun e => by rw [e] at h; exact absurd h (by decide)
      rw [beyond8 _ j h, beyond8 _ j h, decide_eq_false this]
      rfl
  exact ⟨⟨by decide, .inc (by decide), .dec (by decide), .rot .rlc (by decide), .res 7 h7, .set 0 h0⟩, by decide⟩

/-- Both ways DAA corrects, with and without each correction. -/
theorem witness_DecimalAdjust :
    State.reset.flags.n = false ∧ { State.reset with f := 0x40 }.flags.n = true ∧
      (0 = if State.reset.flags.c = true ∨ 0x99 < State.reset.a.toNat then State.reset.a.toNat + 0x60
        else State.reset.a.toNat) := by decide

/-- Both ends of both operands, with the carry set and clear. -/
theorem witness_DecimalArithmetic :
    ({ State.reset with a := 0x99, f := 0x10 }.a.toNat = 9 * 16 + 9 ∧
        1 = if { State.reset with a := 0x99, f := 0x10 }.f.getLsbD 4 then 1 else 0) ∧
      (State.reset.a.toNat = 0 * 16 + 0 ∧ 0 = if State.reset.f.getLsbD 4 then 1 else 0) ∧
      ({ State.reset with a := 0x09 }.a.toNat = 0 * 16 + 9 ∧
        0 = if { State.reset with a := 0x09 }.f.getLsbD 4 then 1 else 0) := by decide

/-- The operand of BIT in a register and at HL. -/
theorem witness_BitInstructions :
    (∃ r, Instr.bitReg 7 .h = .bitReg 7 r ∧ State.reset.h = State.reset.reg r) ∧
      (Instr.bitMemHL 7 = .bit7MemHL ∧ busRead State.reset State.reset.hl = .ok 0) := ⟨⟨.h, rfl, rfl⟩, rfl, by decide⟩

theorem witness_RotateAccumulator : (Instr.rra = .rlca ∧ RotOp.rr = .rlc) ∨ (Instr.rra = .rrca ∧ RotOp.rr = .rrc) ∨
    (Instr.rra = .rla ∧ RotOp.rr = .rl) ∨ (Instr.rra = .rra ∧ RotOp.rr = .rr) := by decide

/-- Every form of jump taken, and every conditional form not taken. -/
theorem witness_JumpsAndUntaken :
    Jumps State.reset (.jpNn 0xFFFF) 0xFFFF ∧ Jumps State.reset .jpHL 0 ∧ Jumps State.reset (.jpCond .nz 5) 5 ∧
      Jumps State.reset (.jrE8 0x80) (BitVec.ofInt 16 (0 + (0x80#8).toInt)) ∧
      Jumps State.reset (.jrCond .nc 0x7F) (BitVec.ofInt 16 (0 + (0x7F#8).toInt)) ∧
      Untaken State.reset (.jpCond .z 5) ∧ Untaken State.reset (.jrCond .c 5) ∧ Untaken State.reset (.callCond .z 5) ∧
      Untaken State.reset (.retCond .c) :=
  ⟨.jp _, .jpHL, .jpCond _ _ rfl, .jr _, .jrCond _ _ rfl, .jp _ _ (by unfold condHolds; decide),
    .jr _ _ (by unfold condHolds; decide), .call _ _ (by unfold condHolds; decide), .ret _ (by unfold condHolds; decide)⟩

/-- Every form of call and return, with a stack that stores and stacks that fault. -/
theorem witness_CallsAndReturns :
    Calls State.reset (.callNn 5) 5 ∧ Calls State.reset (.callCond .nz 5) 5 ∧ Calls State.reset (.rst 7) 0x38 ∧
      stored ({ State.reset with sp := 0xFFFE }.sp - 2) ∧ stored ({ State.reset with sp := 0xFFFE }.sp - 1) ∧
      Returns State.reset .ret ∧ Returns State.reset (.retCond .nz) ∧
      (busRead State.reset State.reset.sp = .ok 0 ∧ busRead State.reset (State.reset.sp + 1) = .ok 0) ∧
      busRead { beyond with sp := 0xA000 } 0xA000 = .error (faultAt 0xA000) ∧
      (busRead beyond 0x9FFF = .ok 0 ∧ busRead beyond (0x9FFF + 1) = .error (faultAt 0xA000)) :=
  ⟨.call _, .callCond _ _ rfl, .rst 7, by decide, by decide, .ret, .retCond _ rfl, by decide, by decide, by decide⟩

/-- HALT that halts (dispatch off; `ime` set; nothing pending) and HALT that raises. -/
theorem witness_EngineControl :
    { State.reset with cfg := noDispatch }.cfg.interruptDispatch = false ∧ { State.reset with ime := true }.ime = true ∧
      pending State.reset = 0 ∧
      (let s := requested State.reset;
        s.cfg.interruptDispatch = true ∧ s.ime = false ∧ pending s ≠ 0) := by decide

theorem witness_UndefinedOpcodesRaise :
    (0xD3, Instr.illegalD3) ∈ Instr.illegalRows ∧ (0xFD, Instr.illegalFD) ∈ Instr.illegalRows ∧
      (let s := run [0xFD];
        s.fault = none ∧ ¬ dispatchDue (wake s) ∧ (wake s).halted = false ∧ busRead s s.pc = .ok 0xFD) := by decide

theorem witness_PrefixRunsSecondTable :
    busRead State.reset State.reset.pc = .ok 0 ∧
      busRead { beyond with pc := 0xA000 } { beyond with pc := 0xA000 }.pc = .error (faultAt 0xA000) := by decide

end Sys2Proof.Tests
end

section
/-! PROOFS. The state (10_state.md): the kind a launch derives from the header, the register pairs as views of their halves,
and the accessors of the flags. -/

namespace Sys2Proof.Machine

/-! ## The kind of the controller -/

/-- A launched machine has the kind of its header byte, whatever the parameters (R46). -/
theorem launch_kind {cfg : Config} {img : List Byte} {s : State} (h : launch cfg img = some s) :
    s.kind = classify (img.getD 0x0147 0) := by
  unfold launch at h
  split at h
  case isTrue => contradiction
  case isFalse =>
    split at h
    case isTrue => contradiction
    case isFalse => rw [← Option.some.inj h]

theorem classify_mbc1 : ∀ header ∈ ([0x01, 0x02, 0x03] : List Byte), classify header = .mbc1 := by decide

theorem classify_mbc2 : ∀ header ∈ ([0x05, 0x06] : List Byte), classify header = .mbc2 := by decide

theorem classify_mbc3 : ∀ header ∈ ([0x0F, 0x10, 0x11, 0x12, 0x13] : List Byte), classify header = .mbc3 := by decide

theorem classify_mbc5 : ∀ header ∈ ([0x19, 0x1A, 0x1B, 0x1C, 0x1D, 0x1E] : List Byte), classify header = .mbc5 := by
  decide

/-- The default of R46's table: a byte outside the four rows lies outside the four ranges `classify` tests. -/
theorem classify_noMbc (header : Byte)
    (h : header ∉ ([0x01, 0x02, 0x03, 0x05, 0x06, 0x0F, 0x10, 0x11, 0x12, 0x13, 0x19, 0x1A, 0x1B, 0x1C, 0x1D, 0x1E] :
      List Byte)) : classify header = .noMbc := by
  simp only [List.mem_cons, List.not_mem_nil, or_false, not_or, ← BitVec.toNat_inj, BitVec.reduceToNat] at h
  unfold classify
  rw [if_neg (by omega), if_neg (by omega), if_neg (by omega), if_neg (by omega)]

/-- Settles O24: the launch classifies the header byte, and `classify` is R46's table row by row. -/
theorem launchClassifiesHeader : Obligations.LaunchClassifiesHeader := by
  intro cfg img s h
  rw [launch_kind h]
  exact ⟨classify_mbc1 _, classify_mbc2 _, classify_mbc3 _, classify_mbc5 _, classify_noMbc _⟩

/-! ## Register pairs -/

/-- To mask the low nibble is to round down to a multiple of 16. -/
theorem toNat_and_F0 (v : Byte) : (v &&& 0xF0).toNat = v.toNat / 16 * 16 := by
  have hshift : v &&& (0xF0 : Byte) = v >>> 4 <<< 4 := by
    ext i hi
    interval_cases i <;> simp
  have hlt := v.isLt
  rw [hshift, BitVec.toNat_shiftLeft, BitVec.toNat_ushiftRight, Nat.shiftLeft_eq, Nat.shiftRight_eq_div_pow]
  omega

/-- A word is masked byte by byte. -/
theorem wordOf_and_wordOf (hi lo hi' lo' : Byte) :
    wordOf hi lo &&& wordOf hi' lo' = wordOf (hi &&& hi') (lo &&& lo') :=
  BitVec.and_append

/-- AF reads back without the low nibble of F (R32, R34). -/
theorem setAF_af (s : State) (v : Word) : (s.setAF v).af = v &&& 0xFFF0 := by
  calc (s.setAF v).af = wordOf (hiByte v) (loByte v &&& 0xF0 &&& 0xF0) := rfl
    _ = wordOf (hiByte v &&& 0xFF) (loByte v &&& 0xF0) := by rw [and_F0_F0, show hiByte v &&& 0xFF = hiByte v from BitVec.and_allOnes]
    _ = wordOf (hiByte v) (loByte v) &&& wordOf 0xFF 0xF0 := (wordOf_and_wordOf _ _ _ _).symm
    _ = v &&& 0xFFF0 := by rw [wordOf_hi_lo]; rfl

/-- Settles O25: the four reads, then the writes of BC, DE, HL and AF, each with its frame. -/
theorem pairsAreTheirHalves : Obligations.PairsAreTheirHalves := by
  intro s v
  refine ⟨⟨toNat_wordOf _ _, toNat_wordOf _ _, toNat_wordOf _ _, toNat_wordOf _ _⟩,
    ⟨toNat_hiByte v, toNat_loByte v, wordOf_hi_lo v, rfl⟩, ⟨toNat_hiByte v, toNat_loByte v, wordOf_hi_lo v, rfl⟩,
    ⟨toNat_hiByte v, toNat_loByte v, wordOf_hi_lo v, rfl⟩, toNat_hiByte v, ?_, setAF_af s v, rfl⟩
  rw [setAF_f, toNat_and_F0, toNat_loByte]

/-! ## Flags -/

/-- What any flag reads after a write of one. -/
theorem getFlag_setFlag (s : State) (w q : Flag) (v : Bool) :
    (s.setFlag w v).getFlag q = if q = w then v else s.getFlag q := by
  by_cases h : q = w
  · subst h; rw [if_pos rfl, getFlag_setFlag_same]
  · rw [if_neg h, getFlag_setFlag_other s w q v h]

/-- Settles O26: a flag is its bit of F, a write of one leaves the others, and F is masked on every way in and out. -/
theorem flagAccessors : Obligations.FlagAccessors := by
  intro s v byte
  have hbits : s.getFlag .z = s.f.getLsbD 7 ∧ s.getFlag .n = s.f.getLsbD 6 ∧ s.getFlag .h = s.f.getLsbD 5 ∧
      s.getFlag .c = s.f.getLsbD 4 := ⟨rfl, rfl, rfl, rfl⟩
  have hframe (w : Flag) : (s.setFlag w v).f &&& 0x0F = 0 ∧ { s.setFlag w v with f := s.f } = s :=
    ⟨setFlags_low s _, rfl⟩
  exact ⟨hbits, fun w q => getFlag_setFlag s w q v, hframe, rfl, rfl⟩

end Sys2Proof.Machine
end

section
/-! PROOFS. The bus (20_memory.md): the echo of work RAM, the windows of the image, the ranges without storage, and the
selection of a ROM bank. -/

namespace Sys2Proof.Machine

/-! ## The echo -/

/-- From the echo down to work RAM the subtraction does not wrap. -/
theorem toNat_sub_0x2000 {a : Word} (h : 0xE000 ≤ a.toNat) : (a - 0x2000).toNat = a.toNat - 0x2000 := by
  bv_omega

/-- The byte below an echo address has the key of the echo (R78). -/
theorem home_sub_0x2000 {a : Word} (h1 : 0xE000 ≤ a.toNat) (h2 : a.toNat ≤ 0xFDFF) : home (a - 0x2000) = home a := by
  rw [home, home, toNat_sub_0x2000 h1, if_neg (by omega), if_pos (And.intro h1 h2)]

/-- The byte below an echo address is on-board storage other than IE. -/
theorem stored_sub_0x2000 {a : Word} (h1 : 0xE000 ≤ a.toNat) (h2 : a.toNat ≤ 0xFDFF) :
    stored (a - 0x2000) ∧ (a - 0x2000).toNat ≠ 0xFFFF := by
  rw [stored, toNat_sub_0x2000 h1]
  omega

/-- A read of the echo is the read of the byte below it: both read the same key. -/
theorem busRead_echo (s : State) {a : Word} (h1 : 0xE000 ≤ a.toNat) (h2 : a.toNat ≤ 0xFDFF) :
    busRead s a = busRead s (a - 0x2000) := by
  obtain ⟨hstored, hie⟩ := stored_sub_0x2000 h1 h2
  rw [busRead_mem hstored hie, home_sub_0x2000 h1 h2, busRead_mem (by unfold stored; omega) (by omega)]

/-- A write to the echo is the write to the byte below it: both write the same key. -/
theorem memWrite_echo (s : State) (v : Byte) {a : Word} (h1 : 0xE000 ≤ a.toNat) (h2 : a.toNat ≤ 0xFDFF) :
    memWrite a v s = memWrite (a - 0x2000) v s := by
  obtain ⟨hstored, hie⟩ := stored_sub_0x2000 h1 h2
  rw [memWrite_mem hstored hie, home_sub_0x2000 h1 h2, memWrite_mem (by unfold stored; omega) (by omega)]

/-- Work RAM up to 0xDDFF reads the same at its echo. -/
theorem busRead_add_0x2000 (s : State) {a : Word} (h1 : 0xC000 ≤ a.toNat) (h2 : a.toNat ≤ 0xDDFF) :
    busRead s (a + 0x2000) = busRead s a := by
  have hsum : (a + 0x2000).toNat = a.toNat + 0x2000 := by bv_omega
  rw [busRead_echo s (by omega) (by omega), BitVec.add_sub_cancel]

/-- The echo ends below 0xDE00 of work RAM: no other address shares the storage of a byte there. -/
theorem eq_of_home_eq {a b : Word} (h1 : 0xDE00 ≤ a.toNat) (h2 : a.toNat ≤ 0xDFFF) (h : home b = home a) : b = a := by
  have ha : home a = a.toNat := if_neg (by omega)
  by_cases hb : 0xE000 ≤ b.toNat ∧ b.toNat ≤ 0xFDFF
  · rw [ha, home, if_pos hb] at h
    omega
  · rw [ha, home, if_neg hb] at h
    exact BitVec.eq_of_toNat_eq h

/-- Settles O28: an echo address shares the key of the byte 0x2000 below it, and a byte from 0xDE00 on shares its key with
none. -/
theorem echoIsWorkRam : Obligations.EchoIsWorkRam := by
  intro s a v
  refine ⟨fun h1 h2 => ⟨busRead_echo s h1 h2, memWrite_echo s v h1 h2⟩, fun h1 h2 => ?_, fun h1 h2 t ht b hb => ?_⟩
  · obtain ⟨t, hw, hst, -⟩ := memWrite_stored (a := a) (by unfold stored; omega) v s
    exact ⟨t, hw, hst.here, fun h3 => (busRead_add_0x2000 t h1 h3).trans hst.here⟩
  · obtain ⟨u, hw, hst, -⟩ := memWrite_stored (a := a) (by unfold stored; omega) v s
    obtain ⟨-, rfl⟩ := Res.ok.inj (hw.symm.trans ht)
    exact hst.others b fun h => hb (eq_of_home_eq h1 h2 h)

/-! ## The ranges outside on-board storage -/

theorem busRead_unusable (s : State) {a : Word} (h : region a = .unusable) : busRead s a = .ok 0x00 := by
  rw [busRead, h]

theorem memWrite_unusable (s : State) (v : Byte) {a : Word} (h : region a = .unusable) : memWrite a v s = .ok () s := by
  rw [memWrite, h]; rfl

theorem busRead_extRam_disabled {s : State} {a : Word} (h : region a = .extRam) (he : s.ramEnabled = false) :
    busRead s a = .ok 0xFF := by
  simp only [busRead, h, cartRamRead, he, Bool.false_eq_true, if_false]

theorem busRead_rom0 (s : State) {a : Word} (h : region a = .rom0) : busRead s a = .ok (Memory.read s.rom a.toNat) := by
  rw [busRead, h]

theorem busRead_romBank (s : State) {a : Word} (h : region a = .romBank) :
    busRead s a = .ok (Memory.read s.rom (a.toNat - 0x4000 + s.romBankOffset)) := by
  rw [busRead, h]

/-- Settles O29, range by range; that a window stays inside the image is `romMin` of the invariant for the low one and
`bankFits` for the high one. -/
theorem romAndUnusableRange : Obligations.RomAndUnusableRange := by
  intro s a v
  refine ⟨fun h1 h2 => ?_, fun h1 h2 he => ?_, fun hinv h => ?_, fun hinv h1 h2 => ?_⟩
  · have hr : region a = .unusable := region_of_holds (And.intro h1 h2)
    exact ⟨busRead_unusable s hr, memWrite_unusable s v hr⟩
  · exact busRead_extRam_disabled (region_of_holds (And.intro h1 h2)) he
  · have hmin := hinv.romMin
    exact ⟨busRead_rom0 s (region_of_holds h), by omega⟩
  · have hfits := hinv.bankFits
    exact ⟨busRead_romBank s (region_of_holds (And.intro h1 h2)), by omega⟩

/-! ## Selecting a ROM bank -/

/-- Settles O32: of the two cases of `selectRomBank_cases` the bound of each clause leaves one. -/
theorem romBankSelection : Obligations.RomBankSelection := by
  intro s bank
  rcases selectRomBank_cases bank s with ⟨hin, heq⟩ | ⟨hout, heq⟩
  · exact ⟨fun _ => ⟨_, heq, rfl, rfl⟩, fun hout => absurd hin (Nat.not_le.mpr hout)⟩
  · exact ⟨fun hin => absurd hin (Nat.not_le.mpr hout), fun _ => heq⟩

end Sys2Proof.Machine
end

section
/-! PROOFS. The ALU operations of 40_engine.md on A and the 16-bit sum into HL: what an instruction of the two families does
to the state, once for all operations, and the results of the primitives in numbers. -/

namespace Sys2Proof.Machine

/-! ## The ALU operations on A -/

theorem exec_aluReg (op : AluOp) (r : Reg8) (s : State) :
    exec (.aluReg op r) s = .next (aluApply op (s.reg r) s) := by
  cases op <;> cases r <;> rfl

theorem exec_aluMemHL (op : AluOp) (s : State) : exec (.aluMemHL op) s = aluWith op .memHL s := by
  cases op <;> rfl

theorem exec_aluN (op : AluOp) (n : Byte) (s : State) : exec (.aluN op n) s = .next (aluApply op n s) := by
  cases op <;> rfl

/-- Whatever the shape of the operand, the instruction applies the operation to its value (R188). -/
theorem exec_of_aluOperand {s : State} {op : AluOp} {i : Instr} {v : Byte} (h : AluOperand s op i v) :
    exec i s = .next (aluApply op v s) := by
  cases h with
  | reg r => exact exec_aluReg op r s
  | memHL _ hread => rw [exec_aluMemHL, aluWith, readR, memRead_ok hread]; rfl
  | imm => exact exec_aluN op v s

@[simp] theorem aluApply_a (op : AluOp) (v : Byte) (s : State) :
    (aluApply op v s).a = (alu8 op s.a v s.flags.c).1 := rfl

@[simp] theorem aluApply_flags (op : AluOp) (v : Byte) (s : State) :
    (aluApply op v s).flags = (alu8 op s.a v s.flags.c).2 := by
  rw [aluApply, setReg_flags, setFlags_flags]

/-- The operations write A and F alone, F with its low nibble clear (R32). -/
theorem aluApply_frame (op : AluOp) (v : Byte) (s : State) :
    (aluApply op v s).f &&& 0x0F = 0 ∧ { aluApply op v s with a := s.a, f := s.f } = s :=
  ⟨setFlags_low s _, rfl⟩

/-- CP writes the flags alone. -/
theorem aluApply_cp (v : Byte) (s : State) : aluApply .cp v s = s.setFlags (cp8 s.a v) := rfl

/-- The 8-bit difference, in numbers. -/
theorem toNat_sub8 (a v : Byte) : (sub8 a v).1.toNat = (a.toNat + 256 - v.toNat) % 256 := by
  have hv := v.isLt
  rw [sub8, BitVec.toNat_ofInt]
  omega

/-- Settles O42: A and the flags become those of `add8`, whatever the operand. -/
theorem addToA : Obligations.AddToA := by
  intro s i v h
  refine ⟨aluApply .add v s, exec_of_aluOperand h, BitVec.toNat_ofNat .., ?_⟩
  rw [aluApply_flags, aluApply_a]
  exact ⟨rfl, rfl, rfl, rfl, aluApply_frame .add v s⟩

/-- Settles O44: both take the flags of `cp8`; SUB also writes the difference, CP nothing but the flags. -/
theorem subtractAndCompare : Obligations.SubtractAndCompare := by
  intro s i v
  constructor <;> intro h
  · refine ⟨aluApply .sub v s, exec_of_aluOperand h, toNat_sub8 s.a v, ?_⟩
    rw [aluApply_flags]
    exact ⟨rfl, rfl, rfl, rfl, aluApply_frame .sub v s⟩
  · refine ⟨s.setFlags (cp8 s.a v), exec_of_aluOperand h, ?_⟩
    rw [setFlags_flags]
    exact ⟨rfl, rfl, rfl, rfl, setFlags_low s _, rfl⟩

/-- Settles O45: each operation is its Boolean one bit by bit; H is set for AND alone. -/
theorem logicWithA : Obligations.LogicWithA := by
  intro s i v op h hop
  refine ⟨aluApply op v s, exec_of_aluOperand h, ?_⟩
  rw [aluApply_flags, aluApply_a]
  rcases hop with rfl | rfl | rfl
  case inl => exact ⟨fun j => BitVec.getLsbD_and, rfl, rfl, rfl, rfl, aluApply_frame .and v s⟩
  case inr.inl => exact ⟨fun j => BitVec.getLsbD_or, rfl, rfl, rfl, rfl, aluApply_frame .or v s⟩
  case inr.inr => exact ⟨fun j => BitVec.getLsbD_xor, rfl, rfl, rfl, rfl, aluApply_frame .xor v s⟩

/-! ## The sum into HL -/

theorem exec_addHL (p : Pair) (s : State) : exec (.addHL p) s = addToHL p s := by
  cases p <;> rfl

/-- HL reads back as it was written (R33). -/
@[simp] theorem setHL_hl (s : State) (v : Word) : (s.setHL v).hl = v := wordOf_hi_lo v

@[simp] theorem setHL_flags (s : State) (v : Word) : (s.setHL v).flags = s.flags := rfl

/-- Settles O51: HL and the flags become those of `add16`, for every pair. -/
theorem addToHl : Obligations.AddToHl := by
  intro s p
  refine ⟨_, exec_addHL p s, ?_⟩
  rw [setHL_hl, setHL_flags, setFlags_flags]
  exact ⟨BitVec.toNat_ofNat .., rfl, rfl, rfl, rfl, setFlags_low s _, rfl⟩

end Sys2Proof.Machine
end

section
/-! PROOFS. The encoding (30_encoding.md): the decoder on an opcode byte with its operand bytes, the two round trips, where
decoding rejects, and the opcode maps by fields. -/

namespace Sys2Proof

/-! ## The decoder, once for every opcode byte -/

/-- No row takes more than two bytes after its opcode byte (R130). -/
theorem operandBytes_le_two (op : Byte) : operandBytes op ≤ 2 := by
  unfold operandBytes
  split <;> omega

/-- An opcode byte with as many bytes after it as its row takes decodes, and leaves what follows (R143). -/
theorem decode_append {op : Byte} {operands : List Byte} (h : operands.length = operandBytes op) (rest : List Byte) :
    decode (op :: (operands ++ rest)) = .ok (decodeBytes op (operands.getD 0 0) (operands.getD 1 0), rest) := by
  have hle := operandBytes_le_two op
  match operands with
  | [] | [_] | [_, _] => simp only [decode, ← h]; rfl
  | _ :: _ :: _ :: _ => simp only [List.length_cons] at h; omega

/-- An opcode byte with too few bytes after it is rejected. -/
theorem decode_truncated {op : Byte} {rest : List Byte} (h : rest.length < operandBytes op) :
    decode (op :: rest) = .error (.truncated op) := by
  have hle := operandBytes_le_two op
  have hcount : operandBytes op = 1 ∨ operandBytes op = 2 := by omega
  rcases hcount with hcount | hcount <;> rw [hcount] at h
  case inl =>
    obtain rfl := List.length_eq_zero_iff.mp (Nat.lt_one_iff.mp h)
    simp only [decode, hcount]
  case inr =>
    match rest with
    | [] | [_] => simp only [decode, hcount]
    | _ :: _ :: _ => simp only [List.length_cons] at h; omega

/-- A list of bytes that holds an instruction splits into its opcode byte, its operands and the rest. -/
theorem exists_operands {op : Byte} {tail : List Byte} (h : operandBytes op ≤ tail.length) :
    ∃ operands rest, tail = operands ++ rest ∧ operands.length = operandBytes op :=
  ⟨tail.take (operandBytes op), tail.drop (operandBytes op), (List.take_append_drop _ _).symm, List.length_take_of_le h⟩

/-- What the decoder accepts is an opcode byte and its operands, decoded, and the rest. -/
theorem decode_ok {bytes rest : List Byte} {i : Instr} (h : decode bytes = .ok (i, rest)) :
    ∃ op operands, bytes = op :: (operands ++ rest) ∧ operands.length = operandBytes op ∧
      i = decodeBytes op (operands.getD 0 0) (operands.getD 1 0) := by
  match bytes with
  | [] => cases h
  | op :: tail =>
    rcases Nat.lt_or_ge tail.length (operandBytes op) with hshort | hlong
    · rw [decode_truncated hshort] at h
      cases h
    · obtain ⟨operands, rest', rfl, hlen⟩ := exists_operands hlong
      rw [decode_append hlen] at h
      cases h
      exact ⟨op, operands, rfl, hlen, rfl⟩

/-! ## The round trips -/

/-- The bytes of an instruction are an opcode byte and the operands its row takes, and they decode to it. Of an immediate
word the two bytes give the word back; every other operand stands in the bytes as it is. -/
theorem encode_shape (i : Instr) (h : i.WellFormed) : ∃ op operands, encode i = op :: operands ∧
    operands.length = operandBytes op ∧ decodeBytes op (operands.getD 0 0) (operands.getD 1 0) = i := by
  cases i with
  | prefixCb => exact absurd rfl h
  | ldBCNn nn | ldDENn nn | ldHLNn nn | ldSPNn nn | ldMemNnSP nn | ldMemNnA nn | ldAMemNn nn | jpNn nn | jpNZNn nn
  | jpZNn nn | jpNCNn nn | jpCNn nn | callNn nn | callNZNn nn | callZNn nn | callNCNn nn | callCNn nn =>
    exact ⟨_, _, rfl, rfl, congrArg _ (wordOf_hi_lo nn)⟩
  | _ => exact ⟨_, _, rfl, rfl, rfl⟩

/-- The other way round: a decoded opcode byte with its operands encodes to those bytes. -/
theorem encode_decodeBytes {op : Byte} {operands : List Byte} (h : operands.length = operandBytes op) :
    (decodeBytes op (operands.getD 0 0) (operands.getD 1 0)).WellFormed ∧
      encode (decodeBytes op (operands.getD 0 0) (operands.getD 1 0)) = op :: operands := by
  have hrow := primaryRow_faithful op
  unfold operandBytes at h
  unfold decodeBytes
  cases hop : primaryRow op <;> simp only [hop, Row.faithful] at h hrow ⊢
  case op i =>
    obtain rfl := List.length_eq_zero_iff.mp h
    exact hrow.symm
  case op8 f =>
    obtain ⟨b1, rfl⟩ := List.length_eq_one_iff.mp h
    exact (hrow b1).symm
  case op16 f =>
    obtain ⟨b1, b2, rfl⟩ := List.length_eq_two.mp h
    have hbytes := hrow (wordOf b2 b1)
    rw [loByte_wordOf, hiByte_wordOf] at hbytes
    exact hbytes.symm
  case cb =>
    obtain ⟨b1, rfl⟩ := List.length_eq_one_iff.mp h
    rw [hrow]
    exact (cbInstr_faithful b1).symm

/-- Settles O1: the bytes of an instruction are its opcode byte and operands, and those decode to it. -/
theorem decodeOfEncode : Obligations.DecodeOfEncode := by
  intro i rest h
  obtain ⟨op, operands, hencode, hlen, hdecode⟩ := encode_shape i h
  rw [hencode, List.cons_append, decode_append hlen, hdecode]

/-- Settles O2: what is accepted is an opcode byte with its operands, and the entry of its row encodes to them. -/
theorem encodeOfDecode : Obligations.EncodeOfDecode := by
  intro bytes rest i h
  obtain ⟨op, operands, rfl, hlen, rfl⟩ := decode_ok h
  obtain ⟨hwf, hencode⟩ := encode_decodeBytes hlen
  exact ⟨hwf, by rw [hencode, List.cons_append]⟩

/-- Settles O4: a list with an opcode byte and its operands is accepted, and one without is not. -/
theorem decodeRejectsOnlyShortInput : Obligations.DecodeRejectsOnlyShortInput := by
  intro bytes
  constructor
  · rintro ⟨e, he⟩
    match bytes with
    | [] => exact .inl rfl
    | op :: tail =>
      refine .inr ⟨op, tail, rfl, Nat.lt_of_not_le fun hlong => ?_⟩
      obtain ⟨operands, rest, rfl, hlen⟩ := exists_operands hlong
      rw [decode_append hlen] at he
      cases he
  · rintro (rfl | ⟨op, rest, rfl, hshort⟩)
    · exact ⟨.empty, rfl⟩
    · exact ⟨.truncated op, decode_truncated hshort⟩

/-! ## The maps by fields -/

/-- Byte by byte and by fields the primary map has the same entry, its immediates left open (R139). -/
theorem decodeBytes_eq_primaryByFields (op b1 b2 : Byte) : decodeBytes op b1 b2 = primaryByFields op b1 b2 := by
  obtain ⟨⟨n, hn⟩⟩ := op
  have h : ∀ k : Fin 256, decodeBytes ⟨k⟩ b1 b2 = primaryByFields ⟨k⟩ b1 b2 := by
    intro k
    fin_cases k <;> rfl
  exact h ⟨n, hn⟩

set_option maxRecDepth 20000 in
/-- Byte by byte and by fields the CB map has the same entry (R140). -/
theorem cbInstr_eq_cbByFields (op2 : Byte) : cbInstr op2 = cbByFields op2 := by
  obtain ⟨⟨n, hn⟩⟩ := op2
  have h : ∀ k : Fin 256, cbInstr ⟨k⟩ = cbByFields ⟨k⟩ := by decide
  exact h ⟨n, hn⟩

/-- The byte 0xCB takes the byte after it as its operand (R138). -/
theorem decode_prefix (op2 : Byte) (rest : List Byte) : decode (0xCB :: op2 :: rest) = .ok (cbInstr op2, rest) := rfl

/-- Settles O3: the two maps entry by entry, the second behind the byte 0xCB. -/
theorem opcodeMapsByFields : Obligations.OpcodeMapsByFields := by
  refine ⟨decodeBytes_eq_primaryByFields, fun op2 rest => ?_⟩
  rw [decode_prefix, cbInstr_eq_cbByFields]

/-- Settles O5: each word is decoded. -/
theorem writtenWordsDecode : Obligations.WrittenWordsDecode :=
  ⟨rfl, rfl, rfl, rfl, rfl, rfl, rfl, rfl⟩

end Sys2Proof
end

section
/-! PROOFS. The bus (20_memory.md): where a read faults, external RAM by index, and the controller writes of each kind. -/

namespace Sys2Proof.Machine

/-! ## Storage and reads -/

/-- Settles O27: it is the law of a write to on-board storage. -/
theorem storedByteReadsBack : Obligations.StoredByteReadsBack :=
  fun s _ v h => memWrite_stored h v s

theorem region_eq_extRam_iff (a : Word) : region a = .extRam ↔ 0xA000 ≤ a.toNat ∧ a.toNat ≤ 0xBFFF :=
  ⟨fun h => by have hb := region_holds a; rwa [h] at hb, fun h => region_of_holds h⟩

theorem busRead_extRam (s : State) {a : Word} (h : region a = .extRam) : busRead s a = cartRamRead s a := by
  rw [busRead, h]

/-- Outside external RAM every read gives a byte. -/
theorem busRead_ne_error (s : State) {a : Word} (h : region a ≠ .extRam) (k : FaultRecord) : busRead s a ≠ .error k := by
  unfold busRead
  split <;> first | contradiction | exact nofun

theorem cartRamRead_error_iff (s : State) (a : Word) (k : FaultRecord) : cartRamRead s a = .error k ↔
    (s.ramEnabled = true ∧ s.cfg.extRamSize ≤ ramIndex s a) ∧ k = .malformedCartridgeAddr a := by
  unfold cartRamRead
  split_ifs with he hi
  · refine ⟨nofun, fun ⟨⟨_, hge⟩, _⟩ => absurd hi (Nat.not_lt.mpr hge)⟩
  · simp only [Except.error.injEq, he, true_and, Nat.le_of_not_lt hi, eq_comm]
  · simp only [reduceCtorEq, he, false_and]

/-- Settles O30: only external RAM can fault, and it faults past its size. -/
theorem readFaultsExactly : Obligations.ReadFaultsExactly := by
  intro s a k
  by_cases hr : region a = .extRam
  · obtain ⟨hlo, hhi⟩ := (region_eq_extRam_iff a).mp hr
    rw [busRead_extRam s hr, cartRamRead_error_iff]
    exact ⟨fun ⟨⟨he, hge⟩, hk⟩ => ⟨⟨hlo, hhi, he, hge⟩, hk⟩, fun ⟨⟨_, _, he, hge⟩, hk⟩ => ⟨⟨he, hge⟩, hk⟩⟩
  · have hnot : ¬ (0xA000 ≤ a.toNat ∧ a.toNat ≤ 0xBFFF) := fun h => hr ((region_eq_extRam_iff a).mpr h)
    refine ⟨fun h => absurd h (busRead_ne_error s hr k), ?_⟩
    rintro ⟨⟨hlo, hhi, -⟩, -⟩
    exact absurd ⟨hlo, hhi⟩ hnot

/-! ## External RAM -/

theorem memWrite_extRam_eq (s : State) {a : Word} (v : Byte) (h : region a = .extRam) :
    memWrite a v s = cartRamWrite a v s := by
  rw [memWrite, h]

/-- A byte stored in external RAM reads back, and every other address reads as before. -/
theorem stored_extRam {s : State} {a : Word} (v : Byte) (hr : region a = .extRam) (he : s.ramEnabled = true)
    (hi : ramIndex s a < s.cfg.extRamSize) :
    Stored a v s { s with extRam := Memory.write s.extRam (ramIndex s a) v } where
  here := by
    have hidx : ramIndex { s with extRam := Memory.write s.extRam (ramIndex s a) v } a = ramIndex s a := rfl
    rw [busRead_extRam _ hr, cartRamRead, if_pos he, hidx, if_pos hi, Memory.read_write_same]
  others b hb := by
    cases hrb : region b
    case extRam =>
      have hne : ramIndex s b ≠ ramIndex s a := by
        have hab : b.toNat ≠ a.toNat := fun h => hb (by rw [BitVec.eq_of_toNat_eq h])
        have ha := (region_eq_extRam_iff a).mp hr
        have hb := (region_eq_extRam_iff b).mp hrb
        unfold ramIndex
        omega
      rw [busRead_extRam _ hrb, busRead_extRam _ hrb]
      show (if s.ramEnabled then if ramIndex s b < s.cfg.extRamSize then
          .ok (Memory.read (Memory.write s.extRam (ramIndex s a) v) (ramIndex s b))
        else .error (.malformedCartridgeAddr b) else .ok 0xFF) = cartRamRead s b
      rw [Memory.read_write_other _ _ _ v hne, cartRamRead]
    all_goals rw [busRead, busRead, hrb]

/-- Settles O31: the branches of `cartRamRead` and `cartRamWrite`, one per clause. -/
theorem externalRamWrites : Obligations.ExternalRamWrites := by
  intro s a v i hlo hhi hi
  have hr : region a = .extRam := (region_eq_extRam_iff a).mpr ⟨hlo, hhi⟩
  have hidx : ramIndex s a = i := hi.symm
  rw [memWrite_extRam_eq s v hr]
  refine ⟨busRead_extRam_disabled hr, fun he hlt => ?_, fun hk => ?_, fun hk he => ?_,
    fun hk he => ⟨fun hge => ?_, fun hlt => ?_⟩⟩
  · rw [busRead_extRam s hr, cartRamRead, if_pos he, hidx, if_pos hlt]
  · rw [cartRamWrite, if_pos hk, raise]
  · rw [cartRamWrite, if_neg hk, if_neg (Bool.eq_false_iff.mp he)]; rfl
  · rw [cartRamWrite, if_neg hk, if_pos he, hidx, if_neg (Nat.not_lt.mpr hge), raise]
  · rw [← hidx] at hlt ⊢
    refine ⟨_, ?_, stored_extRam v hr he hlt, fun n => ?_, rfl⟩
    · rw [cartRamWrite, if_neg hk, if_pos he, if_pos hlt]; rfl
    · split_ifs with hn
      · rw [hn]; exact Memory.read_write_same ..
      · exact Memory.read_write_other _ _ _ v hn

/-! ## Controller writes -/

/-- A write to ROM is a controller write (R76). -/
theorem memWrite_rom (s : State) {a : Word} (v : Byte) (h : a.toNat ≤ 0x7FFF) : memWrite a v s = controllerWrite a v s := by
  by_cases hlow : a.toNat ≤ 0x3FFF
  · rw [memWrite, region_of_holds (r := .rom0) hlow]
  · rw [memWrite, region_of_holds (r := .romBank) ⟨by omega, h⟩]

/-- Without a write handler every write to ROM faults (R97, R98). -/
theorem memWrite_noHandler {s : State} {a : Word} (v : Byte) (h : a.toNat ≤ 0x7FFF) (hn : noHandler s) :
    memWrite a v s = .raised { s with fault := some (.malformedCartridgeAddr a) } := by
  rw [memWrite_rom s v h]
  rcases hn with hk | ⟨hk, hm⟩
  · simp only [controllerWrite, hk, raise]
  · simp only [controllerWrite, hk, hm, raise]

theorem memWrite_mbc1 {s : State} {a : Word} (v : Byte) (hk : s.kind = .mbc1) (hm : s.cfg.mbc1Mode = .standard)
    (h : a.toNat ≤ 0x7FFF) : memWrite a v s = mbc1Write a v s := by
  rw [memWrite_rom s v h]
  simp only [controllerWrite, hk, hm]

theorem memWrite_mbc2 {s : State} {a : Word} (v : Byte) (hk : s.kind = .mbc2) (h : a.toNat ≤ 0x7FFF) :
    memWrite a v s = mbc2Write a v s := by
  rw [memWrite_rom s v h]
  simp only [controllerWrite, hk]

theorem memWrite_mbc3 {s : State} {a : Word} (v : Byte) (hk : s.kind = .mbc3) (h : a.toNat ≤ 0x7FFF) :
    memWrite a v s = mbc3Write a v s := by
  rw [memWrite_rom s v h]
  simp only [controllerWrite, hk]

theorem memWrite_mbc5 {s : State} {a : Word} (v : Byte) (hk : s.kind = .mbc5) (h : a.toNat ≤ 0x7FFF) :
    memWrite a v s = mbc5Write a v s := by
  rw [memWrite_rom s v h]
  simp only [controllerWrite, hk]

/-- The low four bits of a byte as a number. -/
theorem toNat_and_0F (v : Byte) : (v &&& 0x0F).toNat = v.toNat % 16 := by
  rw [BitVec.toNat_and]
  exact Nat.and_two_pow_sub_one_eq_mod v.toNat 4

/-- The low seven bits of a byte as a number. -/
theorem toNat_and_7F (v : Byte) : (v &&& 0x7F).toNat = v.toNat % 128 := by
  rw [BitVec.toNat_and]
  exact Nat.and_two_pow_sub_one_eq_mod v.toNat 7

/-- The RAM enable compares the low nibble with 0xA (R99, R103, R106). -/
theorem enableRam_eq (v : Byte) (s : State) :
    enableRam v s = .ok () { s with ramEnabled := decide (v.toNat % 16 = 0xA) } := by
  have h : (v &&& 0x0F == 0x0A) = decide (v.toNat % 16 = 0xA) := by
    rw [← toNat_and_0F, Bool.beq_eq_decide_eq, decide_eq_decide, ← BitVec.toNat_inj]
    rfl
  rw [enableRam, h]
  rfl

/-- The low bank bits of MBC1, 0 taken as 1 (R99). -/
theorem toNat_mbc1Lo (v : Byte) : (if v.setWidth 5 = 0 then 1 else v.setWidth 5 : BitVec 5).toNat =
    if v.toNat % 32 = 0 then 1 else v.toNat % 32 := by
  have hiff : v.setWidth 5 = 0 ↔ v.toNat % 32 = 0 := by
    rw [← BitVec.toNat_inj, BitVec.toNat_setWidth]
    rfl
  simp only [hiff]
  split_ifs
  · rfl
  · exact BitVec.toNat_setWidth ..

/-- The RAM bank of MBC1: the high bank bits in mode 1, else 0 (R99). -/
theorem toNat_mbc1RamBank (mode : BitVec 1) (hi : BitVec 2) :
    (if mode = 1 then hi.setWidth 8 else 0 : Byte).toNat = if mode = 1 then hi.toNat else 0 := by
  have h := hi.isLt
  split_ifs
  · rw [BitVec.toNat_setWidth]; omega
  · rfl

/-- Settles O33: without a handler the write faults; MBC1 in Standard mode window by window. -/
theorem noHandlerAndMbc1Writes : Obligations.NoHandlerAndMbc1Writes := by
  intro s a v
  refine ⟨memWrite_noHandler v, fun hk hm => ⟨fun h => ?_, fun h1 h2 => ⟨_, toNat_mbc1Lo v, ?_⟩, fun h1 h2 =>
    ⟨v.setWidth 2, _, BitVec.toNat_setWidth .., rfl, ?_⟩, fun h1 h2 => ?_⟩⟩
  · rw [memWrite_mbc1 v hk hm (by omega), mbc1Write, if_pos (by omega), enableRam_eq]
  · rw [memWrite_mbc1 v hk hm (by omega), mbc1Write, if_neg (by omega), if_pos (by omega)]
    rfl
  · rw [memWrite_mbc1 v hk hm (by omega), mbc1Write, if_neg (by omega), if_neg (by omega), if_pos (by omega)]
    rcases selectRomBank_cases ((v.setWidth 2).toNat * 32 + s.mbc1BankLo.toNat) { s with mbc1BankHi := v.setWidth 2 }
      with ⟨hin, heq⟩ | ⟨hout, heq⟩ <;> simp only [mbc1Bank, heq, Res.andThen_ok, Res.andThen_raised]
    · exact ⟨fun _ => ⟨_, rfl, rfl, rfl, toNat_mbc1RamBank .., rfl⟩, fun hout => absurd hin (Nat.not_le.mpr hout)⟩
    · exact ⟨fun hin => absurd hin (Nat.not_le.mpr hout), fun _ => trivial⟩
  · have hmode : v.setWidth 1 = 1 ↔ v.toNat % 2 = 1 := by
      rw [← BitVec.toNat_inj, BitVec.toNat_setWidth]
      rfl
    rw [memWrite_mbc1 v hk hm (by omega), mbc1Write, if_neg (by omega), if_neg (by omega), if_neg (by omega)]
    refine ⟨_, rfl, BitVec.toNat_setWidth .., ?_, rfl⟩
    rw [toNat_mbc1RamBank]
    simp only [hmode]

/-- Bit 8 of an address as a number. -/
theorem getLsbD_8 (a : Word) : a.getLsbD 8 = decide (a.toNat / 256 % 2 = 1) :=
  Nat.testBit_eq_decide_div_mod_eq

/-- Settles O34: the branches of `mbc2Write` and `mbc3Write`, one per clause. -/
theorem mbc2AndMbc3Writes : Obligations.Mbc2AndMbc3Writes := by
  intro s a v
  refine ⟨fun hk => ⟨fun h h8 => ?_, fun h1 h2 h8 => ?_, fun h => ?_⟩,
    fun hk => ⟨fun h => ?_, fun h1 h2 => ?_, fun h1 h2 => ?_⟩⟩
  · rw [memWrite_mbc2 v hk (by omega), mbc2Write, if_pos (by omega), getLsbD_8, if_neg (by simp [h8])]
    rfl
  · rw [memWrite_mbc2 v hk (by omega), mbc2Write, if_neg (by omega), if_pos (by omega), getLsbD_8,
      if_pos (decide_eq_true h8), toNat_and_0F]
  · rw [memWrite_mbc2 v hk (by omega), mbc2Write, getLsbD_8]
    rcases h with ⟨h, h8⟩ | ⟨h1, h2, h8⟩ | ⟨h1, h2⟩
    · rw [if_pos (by omega), if_pos (decide_eq_true h8), raise]
    · rw [if_neg (by omega), if_pos (by omega), if_neg (by simp [h8]), raise]
    · rw [if_neg (by omega), if_neg (by omega), raise]
  · rw [memWrite_mbc3 v hk (by omega), mbc3Write, if_pos (by omega), enableRam_eq]
  · have hiff : v &&& 0x7F = 0 ↔ v.toNat % 128 = 0 := by
      rw [← toNat_and_7F, ← BitVec.toNat_inj]
      rfl
    rw [memWrite_mbc3 v hk (by omega), mbc3Write, if_neg (by omega), if_pos (by omega), toNat_and_7F]
    simp only [hiff]
  · rw [memWrite_mbc3 v hk (by omega), mbc3Write, if_neg (by omega), if_neg (by omega)]
    rfl

/-- Settles O35: the five branches of `mbc5Write`. -/
theorem mbc5Writes : Obligations.Mbc5Writes := by
  intro s a v hk
  refine ⟨fun h => ?_, fun h1 h2 => ?_, fun h1 h2 => ⟨v.setWidth 1, BitVec.toNat_setWidth .., ?_⟩, fun h1 h2 => ?_,
    fun h1 h2 => ?_⟩ <;> rw [memWrite_mbc5 v hk (by omega), mbc5Write]
  · rw [if_pos (by omega), enableRam_eq]
  · rw [if_neg (by omega), if_pos (by omega)]
    rfl
  · rw [if_neg (by omega), if_neg (by omega), if_pos (by omega)]
    rfl
  · rw [if_neg (by omega), if_neg (by omega), if_neg (by omega), if_pos (by omega)]
    rfl
  · rw [if_neg (by omega), if_neg (by omega), if_neg (by omega), if_neg (by omega), raise]

end Sys2Proof.Machine
end

section
/-! PROOFS. The step (40_engine.md section 1, 60_exceptions.md section 1 and section 2): the fetch and the instruction it
runs, the halted machine, the pending sources, and the interrupt dispatch. -/

namespace Sys2Proof.Machine

variable {s : State}

/-! ## The fetch and the instruction -/

/-- A fetch sees the bytes on the bus, wherever PC stands. -/
theorem fetch8_at {pc : Word} {v : Byte} (h : busRead s pc = .ok v) :
    fetch8 { s with pc := pc } = .ok v { s with pc := pc + 1 } :=
  fetch8_ok (s := { s with pc := pc }) h

/-- The bytes of an instruction at PC are fetched as that instruction, and PC ends past them (R176). -/
theorem fetchInstr_of_bytes {op : Byte} {operands : List Byte} (hlen : operands.length = operandBytes op)
    (hbytes : ∀ (k : Nat) (v : Byte), (op :: operands)[k]? = some v → busRead s (s.pc + BitVec.ofNat 16 k) = .ok v) :
    fetchInstr s = .ok (decodeBytes op (operands.getD 0 0) (operands.getD 1 0))
      { s with pc := s.pc + BitVec.ofNat 16 (op :: operands).length } := by
  have hop : busRead s s.pc = .ok op := by
    have h := hbytes 0 op rfl
    rwa [show s.pc + BitVec.ofNat 16 0 = s.pc from BitVec.add_zero _] at h
  rw [fetchInstr, fetch8_ok hop, Res.andThen_ok]
  unfold operandBytes at hlen
  unfold decodeBytes
  cases hrow : primaryRow op <;> simp only [hrow] at hlen ⊢
  case op i =>
    obtain rfl := List.length_eq_zero_iff.mp hlen
    rfl
  case op8 f =>
    obtain ⟨b1, rfl⟩ := List.length_eq_one_iff.mp hlen
    have h1 : busRead s (s.pc + 1) = .ok b1 := hbytes 1 b1 rfl
    rw [fetch8_at h1, Res.andThen_ok, BitVec.add_assoc]
    rfl
  case op16 f =>
    obtain ⟨b1, b2, rfl⟩ := List.length_eq_two.mp hlen
    have h1 : busRead s (s.pc + 1) = .ok b1 := hbytes 1 b1 rfl
    have h2 : busRead s (s.pc + 1 + 1) = .ok b2 := by
      rw [BitVec.add_assoc]
      exact hbytes 2 b2 rfl
    rw [fetch16, fetch8_at h1, Res.andThen_ok, fetch8_at h2, Res.andThen_ok, Res.andThen_ok, BitVec.add_assoc,
      BitVec.add_assoc]
    rfl
  case cb =>
    obtain ⟨b1, rfl⟩ := List.length_eq_one_iff.mp hlen
    have h1 : busRead s (s.pc + 1) = .ok b1 := hbytes 1 b1 rfl
    rw [fetch8_at h1, Res.andThen_ok, BitVec.add_assoc]
    rfl

/-- The step of a machine without a fault: a dispatch, a halted tick or one instruction (R171). -/
theorem step_eq (hf : s.fault = none) : step s =
    if dispatchDue s then .next (dispatch (wake s)).state
    else if (wake s).halted then .next (wake s) else runInstruction (wake s) := by
  unfold step
  rw [hf]
  simp only [wake_dispatchDue, Res.out_eq]

/-- A running machine with no dispatch due runs an instruction. -/
theorem step_of_running (hf : s.fault = none) (hd : ¬ dispatchDue s) (hh : (wake s).halted = false) :
    step s = runInstruction (wake s) := by
  rw [step_eq hf, if_neg hd, if_neg (Bool.eq_false_iff.mp hh)]

/-- Settles O6: the bytes are those of an opcode byte and its operands, which the fetch takes and decodes. -/
theorem stepRunsDecodedInstruction : Obligations.StepRunsDecodedInstruction := by
  intro s bytes i hf hd hh hdecode hbytes
  obtain ⟨op, operands, rfl, hlen, rfl⟩ := decode_ok hdecode
  rw [List.append_nil] at hbytes ⊢
  have hfetch := fetchInstr_of_bytes (s := wake s) hlen fun k v hk => by
    rw [wake_pc, wake_busRead]
    exact hbytes k v hk
  rewrite [step_of_running hf (fun h => hd ((wake_dispatchDue s).mpr h)) hh, runInstruction, hfetch, wake_pc]
  rfl

/-- A fetch of the opcode byte that faults fetches no instruction. -/
theorem fetchInstr_error {k : FaultRecord} (h : busRead s s.pc = .error k) :
    fetchInstr s = .raised { s with fault := some k } := by
  rw [fetchInstr, fetch8_error h, Res.andThen_raised]

/-- Settles O7: the two faults a step meets before it runs an instruction. -/
theorem faultsEndSteps : Obligations.FaultsEndSteps := by
  intro s k
  refine ⟨fun hf => ?_, fun hf hd hh hread => ?_⟩
  · rw [step, hf]
  · have hread' : busRead (wake s) (wake s).pc = .error k := by rwa [wake_pc, wake_busRead]
    rw [step_of_running hf (fun h => hd ((wake_dispatchDue s).mpr h)) hh, runInstruction, fetchInstr_error hread']

/-! ## The halted machine and the pending sources -/

theorem not_dispatchDue_of_quiet (h : pending s = 0) : ¬ dispatchDue s := fun hd => hd.2.2 h

theorem not_dispatchDue_of_off (h : s.cfg.interruptDispatch = false) : ¬ dispatchDue s :=
  fun hd => Bool.false_ne_true (h.symm.trans hd.1)

theorem not_dispatchDue_of_ime (h : s.ime = false) : ¬ dispatchDue s :=
  fun hd => Bool.false_ne_true (h.symm.trans hd.2.1)

/-- Settles O8: what the wake-up does decides, and no dispatch is due in any of the three cases. -/
theorem haltedMachine : Obligations.HaltedMachine := by
  intro s hf
  refine ⟨fun hh hquiet => ?_, fun hh hon hime hp => ?_, fun hh hoff => ?_⟩
  · have hw : wake s = s := hquiet.elim wake_of_quiet wake_of_off
    have hd : ¬ dispatchDue s := hquiet.elim not_dispatchDue_of_quiet not_dispatchDue_of_off
    rw [step_eq hf, if_neg hd, hw, if_pos hh]
  · have hw := wake_of_pending hon hp
    rw [step_of_running hf (not_dispatchDue_of_ime hime) (by rw [hw]), hw]
  · have hw := wake_of_off hoff
    rw [step_of_running hf (not_dispatchDue_of_off hoff) (by rw [hw, hh]), hw]

/-- Only the five sources are in the mask of R413. -/
theorem getLsbD_1F (i : Nat) : (0x1F : Byte).getLsbD i = decide (i < 5) := by
  rcases Nat.lt_or_ge i 8 with h | h
  · interval_cases i <;> rfl
  · rw [BitVec.getLsbD_of_ge _ _ h, decide_eq_false (by omega)]

/-- A pending source is enabled, requested and one of the five (R413). -/
theorem getLsbD_pending (s : State) (i : Nat) :
    (pending s).getLsbD i = (decide (i < 5) && s.ie.getLsbD i && s.ifReg.getLsbD i) := by
  rw [pending, BitVec.getLsbD_and, BitVec.getLsbD_and, getLsbD_1F]
  simp only [Bool.and_comm, Bool.and_assoc]

/-- A byte that is not 0, with nothing above bit 4, has one of its five low bits set. -/
theorem exists_bit_of_ne_zero {p : Byte} (hp : p ≠ 0) (hhigh : ∀ i, 5 ≤ i → p.getLsbD i = false) :
    p.getLsbD 0 ∨ p.getLsbD 1 ∨ p.getLsbD 2 ∨ p.getLsbD 3 ∨ p.getLsbD 4 := by
  by_contra hnone
  simp only [not_or, Bool.not_eq_true] at hnone
  refine hp (BitVec.eq_of_getLsbD_eq fun i _ => ?_)
  rw [show (0 : Byte).getLsbD i = false from BitVec.getLsbD_zero]
  rcases Nat.lt_or_ge i 5 with h | h
  · interval_cases i <;> simp only [hnone]
  · exact hhigh i h

/-- The source served is a set bit, and no bit below it is set (R414). -/
theorem lowestSource_lowest {p : Byte} (hp : p ≠ 0) (hhigh : ∀ i, 5 ≤ i → p.getLsbD i = false) :
    p.getLsbD (lowestSource p).val = true ∧ ∀ j : Nat, j < (lowestSource p).val → p.getLsbD j = false := by
  have hsome := exists_bit_of_ne_zero hp hhigh
  unfold lowestSource
  split_ifs with h0 h1 h2 h3
  · exact ⟨h0, fun j (hj : j < 0) => absurd hj (Nat.not_lt_zero j)⟩
  · exact ⟨h1, fun j (hj : j < 1) => by interval_cases j; exact Bool.eq_false_iff.mpr h0⟩
  · exact ⟨h2, fun j (hj : j < 2) => by interval_cases j <;> exact Bool.eq_false_iff.mpr ‹_›⟩
  · exact ⟨h3, fun j (hj : j < 3) => by interval_cases j <;> exact Bool.eq_false_iff.mpr ‹_›⟩
  · have h4 : p.getLsbD 4 = true := by simpa only [h0, h1, h2, h3, false_or, Bool.false_eq_true] using hsome
    exact ⟨h4, fun j (hj : j < 4) => by interval_cases j <;> exact Bool.eq_false_iff.mpr ‹_›⟩

theorem toNat_vector : ∀ i : Fin 5, (vector i).toNat = 0x40 + 8 * i.val := by decide

/-- The address of IF is on-board storage. -/
theorem stored_if : stored (0xFF0F : Word) := by decide

/-- Settles O9: bit by bit, then the lowest of the bits that are set. -/
theorem pendingAndPriority : Obligations.PendingAndPriority := by
  intro s
  refine ⟨fun i f hread => ?_, fun hp => ?_⟩
  · obtain rfl : s.ifReg = f := Except.ok.inj hread
    exact getLsbD_pending s i
  · obtain ⟨hset, hlow⟩ := lowestSource_lowest hp fun i hi => by
      rw [getLsbD_pending, decide_eq_false (by omega), Bool.false_and, Bool.false_and]
    exact ⟨hset, hlow, toNat_vector _⟩

/-! ## The interrupt dispatch -/

/-- The state a dispatch pushes from: the machine runs, `ime` and its delay are clear, and the request served is cleared
(R417). -/
def dispatching (s : State) : State :=
  { s with
    mem := Memory.write s.mem 0xFF0F (s.ifReg &&& ~~~((1 : Byte) <<< (lowestSource (pending s)).val))
    halted := false
    ime := false
    imeDelay := 0 }

/-- The request is cleared by one bus write of IF. -/
theorem memWrite_if (s : State) : memWrite 0xFF0F (s.ifReg &&& ~~~((1 : Byte) <<< (lowestSource (pending s)).val))
    { s with halted := false, ime := false, imeDelay := 0 } = .ok () (dispatching s) :=
  rfl

/-- That write reads back, and no other byte changes. -/
theorem stored_dispatching (s : State) :
    Stored 0xFF0F (s.ifReg &&& ~~~((1 : Byte) <<< (lowestSource (pending s)).val)) s (dispatching s) where
  here := by
    rw [busRead_mem stored_if (by decide)]
    exact congrArg Except.ok (Memory.read_write_same ..)
  others _ hb := busRead_write_other (s := { s with halted := false, ime := false, imeDelay := 0 }) hb

/-- A dispatch that may push is the push, then the vector. -/
theorem step_dispatching (hf : s.fault = none) (hd : dispatchDue s) (h0 : s.sp ≠ 0x0000) (h1 : s.sp ≠ 0x0001) :
    step s = .next (match pushWrites s.pc (dispatching s) with
      | .ok _ t => { t with pc := vector (lowestSource (pending s)) }
      | .raised t => t) :=
  step_of_dispatch hf hd h0 h1

/-- Settles O10: the request is cleared from `s` to `dispatching s`, and the rest is a push. -/
theorem dispatchEntersHandler : Obligations.DispatchEntersHandler := by
  intro s hf hon hime hp h0 h1
  have hstep := step_dispatching hf ⟨hon, hime, hp⟩ h0 h1
  refine ⟨dispatching s, memWrite_if s, stored_dispatching s, rfl, hstep, fun hlo hhi => ?_⟩
  obtain ⟨t, hpush, hpushed, hframe⟩ := push16_stored (s := dispatching s) s.pc hlo hhi
  obtain ⟨hsp, hlow, hhigh, hothers⟩ := hpushed
  rw [push16_eq] at hpush
  rw [hpush] at hstep
  refine ⟨_, hstep, ⟨hsp, hlow, hhigh, hothers⟩, rfl, (congrArg State.ime hframe :), (congrArg State.imeDelay hframe :),
    (congrArg State.halted hframe :), ?_⟩
  exact congrArg (fun u : State => { u with pc := s.pc, sp := s.sp, mem := s.mem, ie := s.ie, halted := s.halted,
                                            ime := s.ime, imeDelay := s.imeDelay }) hframe

/-- With SP 0x0000 or 0x0001 the dispatch faults before any write (R418). -/
theorem dispatch_low (h : s.sp = 0x0000 ∨ s.sp = 0x0001) :
    (dispatch s).state = { s with fault := some (.unmodelled .iePushDispatch) } := by
  rw [dispatch, if_pos h, raise_state]

/-- Without a handler a push into ROM faults at its first write, SP moved. -/
theorem pushWrites_rom (v : Word) (hn : noHandler s) (h : (s.sp - 2).toNat ≤ 0x7FFF) :
    pushWrites v s = .raised { s with sp := s.sp - 2, fault := some (.malformedCartridgeAddr (s.sp - 2)) } := by
  rw [pushWrites, memWrite_noHandler (s := { s with sp := s.sp - 2 }) (loByte v) h hn]

/-- Settles O11: the refused stack pointers, then the push that faults. -/
theorem dispatchFaults : Obligations.DispatchFaults := by
  intro s hf hon hime hp
  have hd : dispatchDue s := ⟨hon, hime, hp⟩
  refine ⟨fun hsp => ?_, fun hk h1 h2 => ?_⟩
  · rw [step_eq hf, if_pos hd, wake_of_pending hon hp, dispatch_low (s := { s with halted := false }) hsp]
  · have hlow (w : Word) (hw : w.toNat < 2) : s.sp ≠ w := fun h => absurd (h ▸ h1) (Nat.not_le.mpr hw)
    have hstep := step_dispatching hf hd (hlow 0x0000 (by decide)) (hlow 0x0001 (by decide))
    rw [pushWrites_rom (s := dispatching s) s.pc (.inl hk) (show (s.sp - 2).toNat ≤ 0x7FFF by bv_omega)] at hstep
    obtain ⟨hhere, hothers⟩ := stored_dispatching s
    exact ⟨_, hstep, rfl, ⟨hhere, hothers⟩, rfl, rfl, rfl, rfl, rfl⟩

end Sys2Proof.Machine
end

section
/-! PROOFS. What a step may do, over all instructions: the cartridge it never changes, the ways the engine's own flags move,
and the invariant, which the launch establishes and the host keeps too. -/

namespace Sys2Proof.Machine

variable {s t : State}

/-- A flag is not both clear and set. -/
theorem elim_of_false_of_true {b : Bool} {P : Prop} (hoff : b = false) (hon : b = true) : P :=
  absurd (hoff.symm.trans hon) Bool.false_ne_true

/-! ## The cartridge -/

/-- `t` has what of the cartridge of `s` no update writes: the image, the kind, the parameters, and the bank state of the
controllers it does not have. -/
structure SameCartridge (s t : State) : Prop where
  rom : t.rom = s.rom
  romLen : t.romLen = s.romLen
  kind : t.kind = s.kind
  cfg : t.cfg = s.cfg
  mbc5 : s.kind ≠ .mbc5 → t.mbc5Lo = s.mbc5Lo ∧ t.mbc5Hi = s.mbc5Hi
  mbc1 : s.kind ≠ .mbc1 → t.mbc1BankLo = s.mbc1BankLo ∧ t.mbc1BankHi = s.mbc1BankHi ∧ t.mbc1Mode = s.mbc1Mode

theorem sameCartridge_bankClosed (s : State) : BankClosed (SameCartridge s) where
  raise _ _ h := { h with }
  offset _ _ _ h := { h with }
  ramBank _ _ _ h := { h with }
  enable _ _ _ h := { h with }
  mbc5Lo _ _ hk h := { h with mbc5 := fun hne => absurd (h.kind.symm.trans hk) hne }
  mbc5Hi _ _ hk h := { h with mbc5 := fun hne => absurd (h.kind.symm.trans hk) hne }
  mbc1Lo _ _ hk _ h := { h with mbc1 := fun hne => absurd (h.kind.symm.trans hk) hne }
  mbc1Hi _ _ hk h := { h with mbc1 := fun hne => absurd (h.kind.symm.trans hk) hne }
  mbc1Mode _ _ hk h := { h with mbc1 := fun hne => absurd (h.kind.symm.trans hk) hne }

theorem sameCartridge_closed (s : State) : Closed (SameCartridge s) where
  setReg _ r _ h := by cases r <;> exact { h with }
  writeF _ _ h := { h with }
  pc _ _ h := { h with }
  sp _ _ h := { h with }
  raise _ _ h := { h with }
  write := (sameCartridge_bankClosed s).write (fun _ _ _ _ h => { h with }) (fun _ _ h => { h with })
    (fun _ _ _ _ _ h => { h with })

/-- No step writes any of it. -/
theorem step_sameCartridge (h : step s = .next t) : SameCartridge s t :=
  step_closed (sameCartridge_closed s) (fun _ _ _ h => { h with }) (fun _ _ h => { h with }) (fun _ _ h => { h with })
    ⟨rfl, rfl, rfl, rfl, fun _ => ⟨rfl, rfl⟩, fun _ => ⟨rfl, rfl, rfl⟩⟩ h

/-- Settles O12: the four fields are of those no update writes. -/
theorem imageKindAndParametersNeverChange : Obligations.ImageKindAndParametersNeverChange := by
  intro s t hstep
  obtain ⟨hrom, hromLen, hkind, hcfg, -, -⟩ := step_sameCartridge hstep
  exact ⟨hrom, hromLen, hkind, hcfg⟩

/-- `t` has no controller, and the mapping and external RAM of `s`. -/
def SameUncontrolled (s t : State) : Prop :=
  t.kind = .noMbc ∧ t.romBankOffset = s.romBankOffset ∧ t.ramBank = s.ramBank ∧ t.ramEnabled = s.ramEnabled ∧
    t.extRam = s.extRam

/-- Without a controller no bus write reaches the mapping or external RAM: the two cases that could need one. -/
theorem sameUncontrolled_closed (s : State) : Closed (SameUncontrolled s) where
  setReg _ r _ h := by cases r <;> exact h
  writeF _ _ h := h
  pc _ _ h := h
  sp _ _ h := h
  raise _ _ h := h
  write a v t h := by
    rcases memWrite_cases a v t with ⟨_, _, e⟩ | e | e | ⟨_, e⟩ | ⟨hk, -⟩ | ⟨-, hn, -⟩
    case inl | inr.inl | inr.inr.inl | inr.inr.inr.inl => rw [e]; exact h
    case inr.inr.inr.inr.inl => exact absurd h.1 hk
    case inr.inr.inr.inr.inr => exact absurd (.inl h.1) hn

/-- Settles O13: the fields of a controller are written under its kind, and the mapping under some controller. -/
theorem bankStateMovesOnlyByItsController : Obligations.BankStateMovesOnlyByItsController := by
  intro s t hstep
  obtain ⟨-, -, -, -, hmbc5, hmbc1⟩ := step_sameCartridge hstep
  refine ⟨hmbc5, hmbc1, fun hk => ?_⟩
  have hstart : SameUncontrolled s s := ⟨hk, rfl, rfl, rfl, rfl⟩
  exact (step_closed (sameUncontrolled_closed s) (fun _ _ _ h => h) (fun _ _ h => h) (fun _ _ h => h) hstart hstep).2

/-! ## The engine's own flags -/

/-- `t` has the engine flags of `s`: `ime`, its delay and `halted`. -/
structure SameEngine (s t : State) : Prop where
  ime : t.ime = s.ime
  imeDelay : t.imeDelay = s.imeDelay
  halted : t.halted = s.halted

theorem SameEngine.refl (s : State) : SameEngine s s := ⟨rfl, rfl, rfl⟩

theorem sameEngine_bankClosed (s : State) : BankClosed (SameEngine s) where
  raise _ _ h := { h with }
  offset _ _ _ h := { h with }
  ramBank _ _ _ h := { h with }
  enable _ _ _ h := { h with }
  mbc5Lo _ _ _ h := { h with }
  mbc5Hi _ _ _ h := { h with }
  mbc1Lo _ _ _ _ h := { h with }
  mbc1Hi _ _ _ h := { h with }
  mbc1Mode _ _ _ h := { h with }

theorem sameEngine_closed (s : State) : Closed (SameEngine s) where
  setReg _ r _ h := by cases r <;> exact { h with }
  writeF _ _ h := { h with }
  pc _ _ h := { h with }
  sp _ _ h := { h with }
  raise _ _ h := { h with }
  write := (sameEngine_bankClosed s).write (fun _ _ _ _ h => { h with }) (fun _ _ h => { h with })
    (fun _ _ _ _ _ h => { h with })

/-- The fetch of an instruction moves no engine flag. -/
theorem fetchInstr_sameEngine (s : State) : SameEngine s (fetchInstr s).state :=
  (sameEngine_closed s).fetchInstr s (.refl s)

/-- RETI moves the engine flags unless its pop faults. -/
theorem returnFromInterrupt_engine (s : State) :
    SameEngine s (returnFromInterrupt s).state ∨ ((returnFromInterrupt s).state.ime = true ∧
      (returnFromInterrupt s).state.imeDelay = 0 ∧ (returnFromInterrupt s).state.halted = s.halted) := by
  have hpop : SameEngine s ((pop16 s).andThen fun _ u => done u).state :=
    (sameEngine_closed s).pop s _ (.refl s) fun _ _ hu => hu
  unfold returnFromInterrupt
  cases he : pop16 s with
  | ok v u =>
    rw [he] at hpop
    exact .inr ⟨rfl, rfl, hpop.halted⟩
  | raised u =>
    rw [he] at hpop
    exact .inl hpop

/-- What an instruction may do to the engine flags: nothing, or what HALT, DI, EI and RETI do (R381, R383, R384, R420). -/
theorem exec_engine {i : Instr} (h : exec i s = .next t) : SameEngine s t ∨
    (i = .halt ∧ t = { s with halted := true }) ∨ (i = .di ∧ t = { s with ime := false, imeDelay := 0 }) ∨
    (i = .ei ∧ t = { s with imeDelay := 2 }) ∨
    (i = .reti ∧ t.ime = true ∧ t.imeDelay = 0 ∧ t.halted = s.halted) := by
  by_cases hi : i ≠ .halt ∧ i ≠ .di ∧ i ≠ .ei ∧ i ≠ .reti
  · obtain ⟨t', ht', hsame⟩ := exec_closed (sameEngine_closed s) i (.refl s) hi
    rw [h] at ht'
    cases ht'
    exact .inl hsame
  · have hi' : i = .halt ∨ i = .di ∨ i = .ei ∨ i = .reti := by tauto
    rcases hi' with rfl | rfl | rfl | rfl
    case inl =>
      change haltOrRaise s = .next t at h
      unfold haltOrRaise at h
      split at h <;> cases h
      · exact .inl ⟨rfl, rfl, rfl⟩
      · exact .inr (.inl ⟨rfl, rfl⟩)
    case inr.inl => cases h; exact .inr (.inr (.inl ⟨rfl, rfl⟩))
    case inr.inr.inl => cases h; exact .inr (.inr (.inr (.inl ⟨rfl, rfl⟩)))
    case inr.inr.inr =>
      cases h
      rcases returnFromInterrupt_engine s with hsame | hset
      · exact .inl hsame
      · exact .inr (.inr (.inr (.inr ⟨rfl, hset⟩)))

/-- A dispatch leaves the engine flags, where it refuses the stack pointer, or clears `ime` and its delay; `halted` stays. -/
theorem dispatch_engine (s : State) : SameEngine s (dispatch s).state ∨
    ((dispatch s).state.ime = false ∧ (dispatch s).state.imeDelay = 0 ∧ (dispatch s).state.halted = s.halted) := by
  by_cases hsp : s.sp = 0x0000 ∨ s.sp = 0x0001
  · rw [dispatch_low hsp]
    exact .inl ⟨rfl, rfl, rfl⟩
  · refine .inr ?_
    obtain ⟨h0, h1⟩ := not_or.mp hsp
    have hpush := (sameEngine_closed _).push16 s.pc _ (.refl { s with
      mem := Memory.write s.mem 0xFF0F (s.ifReg &&& ~~~((1 : Byte) <<< (lowestSource (pending s)).val))
      ime := false
      imeDelay := 0 })
    rw [dispatch_eq h0 h1, ← push16_eq]
    refine Res.state_andThen (P := fun u => u.ime = false ∧ u.imeDelay = 0 ∧ u.halted = s.halted) _ _ (fun u he => ?_)
      (fun _ u he => ?_) <;> rw [he] at hpush <;> exact ⟨hpush.ime, hpush.imeDelay, hpush.halted⟩

/-- An instruction the decoder gives for an opcode byte encodes with that byte first. -/
theorem encode_decodeBytes_head (op b1 b2 : Byte) : (encode (decodeBytes op b1 b2)).head? = some op := by
  have hrow := primaryRow_faithful op
  unfold decodeBytes
  cases hop : primaryRow op <;> simp only [hop, Row.faithful] at hrow ⊢
  case op i => rw [hrow.1]; rfl
  case op8 f => rw [(hrow b1).1]; rfl
  case op16 f => rw [(hrow _).1]; rfl
  case cb => rw [(cbInstr_faithful b1).1, hrow]; rfl

/-- The instruction a step runs was fetched from the bytes at PC, its opcode byte first. -/
theorem fetchInstr_opcode {i : Instr} {u : State} (h : fetchInstr s = .ok i u) :
    ∃ op, busRead s s.pc = .ok op ∧ (encode i).head? = some op := by
  obtain ⟨op, b1, b2, _, hop, rfl, -⟩ := fetchInstr_ok h
  exact ⟨op, hop, encode_decodeBytes_head op b1 b2⟩

/-- Everything a step can do to the engine flags: nothing but the wake-up; a dispatch; or an instruction, whose first byte
stands at PC, and its end. -/
theorem step_engine (h : step s = .next t) : s.fault = none ∧
    (SameEngine (wake s) t ∨
      (dispatchDue s ∧ t.ime = false ∧ t.imeDelay = 0 ∧ t.halted = (wake s).halted) ∨
      ((wake s).halted = false ∧ ∃ i u v, busRead s s.pc = .ok ((encode i).headD 0) ∧ SameEngine (wake s) u ∧
        u.fault = none ∧ exec i u = .next v ∧ t = endOfInstruction v)) := by
  obtain ⟨hf, hc⟩ := step_cases h
  refine ⟨hf, ?_⟩
  rcases hc with ⟨hd, rfl⟩ | ⟨-, -, rfl⟩ | ⟨-, -, hfetch⟩ | ⟨-, hh, i, u, v, hfetch, hx, rfl⟩
  · rcases dispatch_engine (wake s) with hsame | hcleared
    · exact .inl hsame
    · exact .inr (.inl ⟨hd, hcleared⟩)
  · exact .inl (.refl _)
  · have hsame := fetchInstr_sameEngine (wake s)
    rw [hfetch] at hsame
    exact .inl hsame
  · have hsame := fetchInstr_sameEngine (wake s)
    rw [hfetch] at hsame
    obtain ⟨op, hop, hhead⟩ := fetchInstr_opcode hfetch
    obtain ⟨-, -, -, _, -, -, rfl⟩ := fetchInstr_ok hfetch
    rw [wake_pc, wake_busRead] at hop
    have hhead' : (encode i).headD 0 = op := by rw [List.headD_eq_head?_getD, hhead]; rfl
    exact .inr (.inr ⟨hh, i, _, v, hhead' ▸ hop, hsame, (wake_fault s).trans hf, hx, rfl⟩)

/-- The end of an instruction that raised nothing. -/
theorem endOfInstruction_of_safe (h : s.fault = none) :
    endOfInstruction s = { s with ime := s.ime || s.imeDelay == 1, imeDelay := tickDelay s.imeDelay } := by
  rw [endOfInstruction, h]
  rfl

/-- The end of an instruction sets `ime` where the delay stands at 1, and else leaves it. -/
theorem endOfInstruction_ime (s : State) :
    (endOfInstruction s).ime = s.ime ∨ (s.imeDelay = 1 ∧ (endOfInstruction s).ime = true) := by
  unfold endOfInstruction
  split
  · exact .inl rfl
  · by_cases hd : s.imeDelay = 1
    · exact .inr ⟨hd, by simp only [hd, beq_self_eq_true, Bool.or_true]⟩
    · exact .inl (by simp only [beq_eq_false_iff_ne.mpr hd, Bool.or_false])

/-- A delay that has run out stays so. -/
theorem endOfInstruction_delay (h : s.imeDelay = 0) : (endOfInstruction s).imeDelay = 0 := by
  unfold endOfInstruction
  split
  · exact h
  · simp only [h]; rfl

theorem endOfInstruction_halted (s : State) : (endOfInstruction s).halted = s.halted := by
  rw [endOfInstruction_eq]

/-- An instruction and its end set `ime` where the delay stood at 1, or for RETI. -/
theorem exec_sets_ime {i : Instr} (h : exec i s = .next t) (hoff : s.ime = false)
    (hon : (endOfInstruction t).ime = true) : s.imeDelay = 1 ∨ i = .reti := by
  have hend : t.ime = true ∨ t.imeDelay = 1 :=
    (endOfInstruction_ime t).elim (fun he => .inl (he.symm.trans hon)) (fun he => .inr he.1)
  rcases exec_engine h with hsame | ⟨-, rfl⟩ | ⟨-, rfl⟩ | ⟨-, rfl⟩ | ⟨rfl, -⟩
  case inl => rw [hsame.ime, hsame.imeDelay, hoff] at hend; exact .inl (hend.resolve_left Bool.false_ne_true)
  case inr.inl => exact .inl (hend.resolve_left (elim_of_false_of_true hoff))
  case inr.inr.inl => exact absurd hend (by decide : ¬ (false = true ∨ (0 : Fin 3) = 1))
  case inr.inr.inr.inl =>
    have h2 : (2 : Fin 3) = 1 := hend.resolve_left (elim_of_false_of_true hoff)
    exact absurd h2 (by decide)
  case inr.inr.inr.inr => exact .inr rfl

/-- Only DI clears `ime`. -/
theorem exec_clears_ime {i : Instr} (h : exec i s = .next t) (hon : s.ime = true)
    (hoff : (endOfInstruction t).ime = false) : i = .di := by
  have hend : t.ime = false :=
    (endOfInstruction_ime t).elim (fun he => he.symm.trans hoff) fun he => elim_of_false_of_true hoff he.2
  rcases exec_engine h with hsame | ⟨-, rfl⟩ | ⟨rfl, -⟩ | ⟨-, rfl⟩ | ⟨-, hime, -⟩
  case inr.inr.inl => rfl
  case inl => exact elim_of_false_of_true hend (hsame.ime.trans hon)
  case inr.inl | inr.inr.inr.inl => exact elim_of_false_of_true hend hon
  case inr.inr.inr.inr => exact elim_of_false_of_true hend hime

/-- Only EI starts the delay, and at its end the delay stands at 1. -/
theorem exec_starts_delay {i : Instr} (h : exec i s = .next t) (hf : s.fault = none) (h0 : s.imeDelay = 0)
    (hne : (endOfInstruction t).imeDelay ≠ 0) : i = .ei ∧ (endOfInstruction t).imeDelay = 1 := by
  rcases exec_engine h with hsame | ⟨-, rfl⟩ | ⟨-, rfl⟩ | ⟨rfl, rfl⟩ | ⟨-, -, hdelay, -⟩
  case inr.inr.inr.inl => exact ⟨rfl, by rw [endOfInstruction_of_safe (by exact hf)]; rfl⟩
  case inl => exact absurd (endOfInstruction_delay (hsame.imeDelay.trans h0)) hne
  case inr.inl => exact absurd (endOfInstruction_delay (by exact h0)) hne
  case inr.inr.inl => exact absurd (endOfInstruction_delay rfl) hne
  case inr.inr.inr.inr => exact absurd (endOfInstruction_delay hdelay) hne

/-- Settles O14: a step that only wakes up moves neither flag, a dispatch clears both, and of the instructions RETI, DI and
EI stand out. -/
theorem imeChangesOnlyByRule : Obligations.ImeChangesOnlyByRule := by
  intro s t hstep
  obtain ⟨-, hsame | ⟨hd, hime, hdelay, -⟩ | ⟨-, i, u, v, hop, hu, huf, hx, rfl⟩⟩ := step_engine hstep
  · rw [hsame.ime, hsame.imeDelay, wake_ime, wake_imeDelay]
    exact ⟨elim_of_false_of_true, fun hon hoff => elim_of_false_of_true hoff hon, fun h0 hne => absurd h0 hne⟩
  · exact ⟨fun _ hon => elim_of_false_of_true hime hon, fun _ _ => .inl hd,
      fun _ hne => absurd hdelay hne⟩
  · rw [← wake_ime s, ← wake_imeDelay s, ← hu.ime, ← hu.imeDelay]
    refine ⟨fun hoff hon => ?_, fun hon hoff => ?_, fun h0 hne => ?_⟩
    · rcases exec_sets_ime hx hoff hon with h1 | rfl
      · exact .inl h1
      · exact .inr hop
    · obtain rfl := exec_clears_ime hx hon hoff
      exact .inr hop
    · obtain ⟨rfl, h1⟩ := exec_starts_delay hx huf h0 hne
      exact ⟨hop, h1⟩

/-- A wake-up needs dispatch on and a source pending (R416, R422). -/
theorem wake_ends_halt (hh : s.halted = true) (hw : (wake s).halted = false) :
    s.cfg.interruptDispatch = true ∧ pending s ≠ 0 := by
  unfold wake at hw
  split at hw
  case isTrue hcond => exact ⟨hcond.1, hcond.2.2⟩
  case isFalse => exact elim_of_false_of_true hw hh

/-- Settles O15: beside the wake-up only HALT moves `halted`. -/
theorem haltEntryAndExit : Obligations.HaltEntryAndExit := by
  intro s t hstep
  have hstay (he : t.halted = (wake s).halted) : (s.halted = false → t.halted = true → busRead s s.pc = .ok 0x76) ∧
      (s.halted = true → t.halted = false → s.cfg.interruptDispatch = true ∧ pending s ≠ 0) := by
    refine ⟨fun hrun hhalt => ?_, fun hh hoff => wake_ends_halt hh (he.symm.trans hoff)⟩
    rw [wake_of_running hrun] at he
    exact elim_of_false_of_true (he.trans hrun) hhalt
  obtain ⟨-, hsame | ⟨-, -, -, hhalted⟩ | ⟨hw, i, u, v, hop, hu, -, hx, rfl⟩⟩ := step_engine hstep
  · exact hstay hsame.halted
  · exact hstay hhalted
  · have hend := endOfInstruction_halted v
    rcases exec_engine hx with hv | ⟨rfl, -⟩ | ⟨-, rfl⟩ | ⟨-, rfl⟩ | ⟨-, -, -, hv⟩
    · exact hstay ((hend.trans hv.halted).trans hu.halted)
    · exact ⟨fun _ _ => hop, fun hh _ => wake_ends_halt hh hw⟩
    · exact hstay (hend.trans hu.halted)
    · exact hstay (hend.trans hu.halted)
    · exact hstay ((hend.trans hv).trans hu.halted)

/-! ## A fault ends the step -/

/-- Where a sequence raises, one of its two parts does. -/
theorem Res.andThen_eq_raised {α β : Type} {r : Res α} {k : α → State → Res β} (h : r.andThen k = .raised t) :
    r = .raised t ∨ ∃ v u, r = .ok v u ∧ k v u = .raised t := by
  cases r with
  | ok v u => exact .inr ⟨v, u, rfl, h⟩
  | raised u => exact .inl (congrArg Res.raised (Res.raised.inj h))

/-- A value computed from what was read raises only where the read does. -/
theorem Res.raised_of_andThen_ok {α β : Type} {r : Res α} {f : α → State → β} {g : State → State}
    (h : (r.andThen fun v u => .ok (f v u) (g u)) = .raised t) : r = .raised t :=
  (Res.andThen_eq_raised h).resolve_right fun ⟨_, _, _, hk⟩ => nomatch hk

/-- A fetch that raises records a fault. -/
theorem fetch8_raised (h : fetch8 s = .raised t) : t.fault ≠ none := by
  cases hread : busRead s s.pc with
  | ok v => rw [fetch8_ok hread] at h; cases h
  | error k => rw [fetch8_error hread] at h; cases h; exact nofun

theorem fetch16_raised (h : fetch16 s = .raised t) : t.fault ≠ none := by
  rcases Res.andThen_eq_raised h with h | ⟨_, _, -, h⟩
  · exact fetch8_raised h
  · exact fetch8_raised (Res.raised_of_andThen_ok h)

theorem fetchInstr_raised (h : fetchInstr s = .raised t) : t.fault ≠ none := by
  rcases Res.andThen_eq_raised h with h | ⟨op, u, -, h⟩
  · exact fetch8_raised h
  · cases hrow : primaryRow op <;> simp only [hrow] at h
    case op => cases h
    case op8 | cb => exact fetch8_raised (Res.raised_of_andThen_ok h)
    case op16 => exact fetch16_raised (Res.raised_of_andThen_ok h)

/-- A step of a running machine that raises nothing runs an instruction to its end. -/
theorem step_runs_instruction (h : step s = .next t) (hsafe : t.fault = none) (hd : ¬ dispatchDue s)
    (hh : (wake s).halted = false) : ∃ i u v, fetchInstr (wake s) = .ok i u ∧ exec i u = .next v ∧ v.fault = none ∧
      t = endOfInstruction v := by
  obtain ⟨-, ⟨hd', -⟩ | ⟨-, hh', -⟩ | ⟨-, -, hfetch⟩ | ⟨-, -, i, u, v, hfetch, hx, rfl⟩⟩ := step_cases h
  · exact absurd hd' hd
  · exact elim_of_false_of_true hh hh'
  · exact absurd hsafe (fetchInstr_raised hfetch)
  · rw [endOfInstruction_eq] at hsafe
    exact ⟨i, u, v, hfetch, hx, hsafe, rfl⟩

/-- Settles O16: an instruction other than EI and DI keeps the delay at 1, or sets `ime` at once, and its end does the
rest. -/
theorem delayEndsWithTheNextInstruction : Obligations.DelayEndsWithTheNextInstruction := by
  intro s t hstep hsafe hd hh hdelay hei hdi
  obtain ⟨i, u, v, hfetch, hx, hv, rfl⟩ :=
    step_runs_instruction hstep hsafe (fun h => hd ((wake_dispatchDue s).mpr h)) hh
  have hu := fetchInstr_sameEngine (wake s)
  rw [hfetch] at hu
  have hud : u.imeDelay = 1 := (hu.imeDelay.trans (wake_imeDelay s)).trans hdelay
  obtain ⟨op, hop, hhead⟩ := fetchInstr_opcode hfetch
  rw [wake_pc, wake_busRead] at hop
  rw [endOfInstruction_of_safe hv]
  have hone (h1 : v.imeDelay = 1) : (v.ime || v.imeDelay == 1) = true ∧ tickDelay v.imeDelay = 0 := by
    rw [h1]
    exact ⟨Bool.or_true _, rfl⟩
  rcases exec_engine hx with hsame | ⟨-, rfl⟩ | ⟨rfl, -⟩ | ⟨rfl, -⟩ | ⟨-, hime, h0, -⟩
  case inl => exact hone (hsame.imeDelay.trans hud)
  case inr.inl => exact hone hud
  case inr.inr.inl => exact absurd (hop.trans (congrArg _ (Option.some.inj hhead).symm)) hdi
  case inr.inr.inr.inl => exact absurd (hop.trans (congrArg _ (Option.some.inj hhead).symm)) hei
  case inr.inr.inr.inr =>
    rw [hime, h0]
    exact ⟨rfl, rfl⟩

/-! ## The invariant -/

/-- Settles O17: the empty storage is canonical, and the rest is the power-on values. -/
theorem invariantAtReset : Obligations.InvariantAtReset := by
  obtain ⟨hmem, hrom, hext⟩ := reset_memory_wf
  exact ⟨rfl, hmem, nofun, hrom, nofun, Nat.le_refl _, rfl, hext, nofun, rfl, Nat.le_refl _, by decide, fun _ => rfl,
    by decide⟩

/-- The invariant but for the delay of EI, which stands at 2 between EI and its end. -/
def InvButDelay (s : State) : Prop := State.Inv { s with imeDelay := 0 }

theorem inv_iff : s.Inv ↔ InvButDelay s ∧ s.imeDelay ≠ 2 :=
  ⟨fun h => ⟨{ h with delay := (by decide : (0 : Fin 3) ≠ 2) }, h.delay⟩, fun ⟨h, hdelay⟩ => { h with delay := hdelay }⟩

theorem invButDelay_bankClosed : BankClosed InvButDelay where
  raise s := inv_bankClosed.raise { s with imeDelay := 0 }
  offset s := inv_bankClosed.offset { s with imeDelay := 0 }
  ramBank s := inv_bankClosed.ramBank { s with imeDelay := 0 }
  enable s := inv_bankClosed.enable { s with imeDelay := 0 }
  mbc5Lo s := inv_bankClosed.mbc5Lo { s with imeDelay := 0 }
  mbc5Hi s := inv_bankClosed.mbc5Hi { s with imeDelay := 0 }
  mbc1Lo s := inv_bankClosed.mbc1Lo { s with imeDelay := 0 }
  mbc1Hi s := inv_bankClosed.mbc1Hi { s with imeDelay := 0 }
  mbc1Mode s := inv_bankClosed.mbc1Mode { s with imeDelay := 0 }

/-- A byte stored under a key of the five arrays keeps the invariant. -/
theorem inv_mem {key : Nat} (v : Byte) (hk : backed key) (h : s.Inv) :
    State.Inv { s with mem := Memory.write s.mem key v } :=
  { h with
    memWf := Memory.wf_write s.mem key v h.memWf
    memKeys := Memory.keys_write backed s.mem key v h.memKeys hk }

/-- A byte stored in external RAM inside its size keeps the invariant. -/
theorem inv_extRam {key : Nat} (v : Byte) (hk : key < s.cfg.extRamSize) (h : s.Inv) :
    State.Inv { s with extRam := Memory.write s.extRam key v } :=
  { h with
    extWf := Memory.wf_write s.extRam key v h.extWf
    extKeys := Memory.keys_write (· < s.cfg.extRamSize) s.extRam key v h.extKeys hk }

theorem invButDelay_closed : Closed InvButDelay where
  setReg s r v h := by
    have hset := inv_closed.setReg { s with imeDelay := 0 } r v h
    cases r <;> exact hset
  writeF s := inv_closed.writeF { s with imeDelay := 0 }
  pc s := inv_closed.pc { s with imeDelay := 0 }
  sp s := inv_closed.sp { s with imeDelay := 0 }
  raise s := inv_closed.raise { s with imeDelay := 0 }
  write := invButDelay_bankClosed.write (fun s _ v hk h => inv_mem (s := { s with imeDelay := 0 }) v hk h)
    (fun _ _ h => { h with }) (fun s _ v _ hk h => inv_extRam (s := { s with imeDelay := 0 }) v hk h)

/-- IF stands in the I/O bank. -/
theorem backed_if : backed 0xFF0F := by decide

/-- The delay of EI has run out or stands at 1 after every step from such a state (R419). -/
theorem step_delay (h : step s = .next t) (hs : s.imeDelay ≠ 2) : t.imeDelay ≠ 2 := by
  obtain ⟨-, hsame | ⟨-, -, hdelay, -⟩ | ⟨-, i, u, v, -, hu, huf, hx, rfl⟩⟩ := step_engine h
  · rwa [hsame.imeDelay, wake_imeDelay]
  · rw [hdelay]; decide
  · have hud : u.imeDelay ≠ 2 := by rwa [hu.imeDelay, wake_imeDelay]
    have htick : ∀ d, tickDelay d ≠ 2 := by decide
    have hend (hv : v.fault ≠ none → v.imeDelay ≠ 2) : (endOfInstruction v).imeDelay ≠ 2 := by
      by_cases hvf : v.fault = none
      · rw [endOfInstruction_of_safe hvf]; exact htick _
      · rw [endOfInstruction, if_pos (Option.isSome_iff_ne_none.mpr hvf)]; exact hv hvf
    rcases exec_engine hx with hsame | ⟨-, rfl⟩ | ⟨-, rfl⟩ | ⟨-, rfl⟩ | ⟨-, -, hdelay, -⟩
    case inl => exact hend fun _ => by rwa [hsame.imeDelay]
    case inr.inl => exact hend fun _ => hud
    case inr.inr.inl => exact hend fun _ => (by decide : (0 : Fin 3) ≠ 2)
    case inr.inr.inr.inl => exact hend fun hvf => absurd huf hvf
    case inr.inr.inr.inr => exact hend fun _ => by rw [hdelay]; decide

/-- Settles O18: every update keeps the invariant but for the delay, and the step keeps the delay from 2. -/
theorem stepKeepsInvariant : Obligations.StepKeepsInvariant := by
  intro s t hinv hstep
  obtain ⟨hbut, hdelay⟩ := inv_iff.mp hinv
  have hkept : InvButDelay t := step_closed invButDelay_closed (fun _ _ _ h => { h with }) (fun _ _ h => { h with })
    (fun s v h => inv_mem (s := { s with imeDelay := 0 }) v backed_if h) hbut hstep
  exact inv_iff.mpr ⟨hkept, step_delay hstep hdelay⟩

/-! ## The launch and the host -/

/-- The power-on state of an image and its parameters (R450, R451). -/
def launched (cfg : Config) (img : List Byte) : State :=
  { State.reset with
    cfg := cfg
    rom := Memory.ofBytes 0 img
    romLen := img.length
    kind := classify (img.getD 0x0147 0)
    romBankOffset := cfg.initialRomBank * 0x4000
    mbc5Lo := BitVec.ofNat 8 cfg.initialRomBank
    mbc5Hi := BitVec.ofNat 1 (cfg.initialRomBank / 0x100) }

/-- A launch refuses a short image and an initial bank outside it, and else gives the power-on state. -/
theorem launch_cases (cfg : Config) (img : List Byte) :
    ((img.length < 0x8000 ∨ img.length < cfg.initialRomBank * 0x4000 + 0x4000) ∧ launch cfg img = none) ∨
    (0x8000 ≤ img.length ∧ cfg.initialRomBank * 0x4000 + 0x4000 ≤ img.length ∧
      launch cfg img = some (launched cfg img)) := by
  unfold launch
  split_ifs with hshort hbank
  · exact .inl ⟨.inl hshort, rfl⟩
  · exact .inl ⟨.inr hbank, rfl⟩
  · exact .inr ⟨Nat.le_of_not_lt hshort, Nat.le_of_not_lt hbank, rfl⟩

/-- What a launch that is not refused gives, and what it checked. -/
theorem launch_some {cfg : Config} {img : List Byte} (h : launch cfg img = some s) : 0x8000 ≤ img.length ∧
    cfg.initialRomBank * 0x4000 + 0x4000 ≤ img.length ∧ s = launched cfg img := by
  rcases launch_cases cfg img with ⟨-, hnone⟩ | ⟨hlen, hbank, hsome⟩
  · rw [hnone] at h; cases h
  · rw [hsome] at h; cases h; exact ⟨hlen, hbank, rfl⟩

/-- The power-on state has the invariant where the image holds both windows and the initial bank. -/
theorem launched_inv {cfg : Config} {img : List Byte} (hlen : 0x8000 ≤ img.length)
    (hbank : cfg.initialRomBank * 0x4000 + 0x4000 ≤ img.length) : (launched cfg img).Inv where
  fLow := (rfl : (0 : Byte) &&& 0x0F = 0)
  memWf := Memory.wf_nil
  memKeys := nofun
  romWf := Memory.wf_ofBytes 0 img
  romKeys cell hcell := by
    have h := (Memory.keys_ofBytes 0 img cell hcell).2
    rwa [Nat.zero_add] at h
  romMin := hlen
  kindOfHeader := congrArg classify (by
    have h := Memory.read_ofBytes 0 0x0147 img
    rw [Nat.zero_add] at h
    exact h.symm)
  extWf := Memory.wf_nil
  extKeys := nofun
  bankAligned := Nat.mul_mod_left ..
  bankFits := hbank
  delay := (by decide : (0 : Fin 3) ≠ 2)
  ramOff _ := rfl
  mbc1Lo := (by decide : (1 : BitVec 5) ≠ 0)

/-- The address of an index of the I/O bank. -/
theorem toNat_io (i : Fin 0x80) : (BitVec.ofNat 16 (0xFF00 + i.val)).toNat = 0xFF00 + i.val := by
  rw [BitVec.toNat_ofNat]
  omega

/-- The key of an index of the I/O bank is its address. -/
theorem home_io (i : Fin 0x80) : home (BitVec.ofNat 16 (0xFF00 + i.val)) = 0xFF00 + i.val := by
  rw [home, toNat_io, if_neg (by omega)]

/-- A byte written to its key in the storage is stored at its address. -/
theorem stored_write {a : Word} (v : Byte) (s : State) (h : stored a) (hie : a.toNat ≠ 0xFFFF) :
    Stored a v s { s with mem := Memory.write s.mem (home a) v } := by
  obtain ⟨t, hwrite, hstored, -⟩ := memWrite_stored h v s
  rw [memWrite_mem h hie] at hwrite
  cases hwrite
  exact hstored

/-- An injection into the I/O bank stores its byte there. -/
theorem stored_injectIo (i : Fin 0x80) (v : Byte) (s : State) :
    Stored (BitVec.ofNat 16 (0xFF00 + i.val)) v s { s with mem := Memory.write s.mem (0xFF00 + i.val) v } := by
  have haddr := toNat_io i
  have h := stored_write (a := BitVec.ofNat 16 (0xFF00 + i.val)) v s (by unfold stored; omega) (by omega)
  rwa [home_io] at h

/-- An injection into IE stores its byte there. -/
theorem stored_injectIe (v : Byte) (s : State) : Stored 0xFFFF v s { s with ie := v } := by
  obtain ⟨t, hwrite, hstored, -⟩ := memWrite_stored (a := 0xFFFF) (by decide) v s
  rw [memWrite_ie (by decide)] at hwrite
  cases hwrite
  exact hstored

/-- What the host does between two steps keeps the invariant. -/
theorem hostMove_inv {m : HostMove} (hinv : s.Inv) (h : hostMove m s = some t) : t.Inv := by
  cases m with
  | injectIo i v =>
    cases h
    exact inv_mem v (by unfold backed; omega) hinv
  | injectIe v =>
    cases h
    exact { hinv with }
  | reset =>
    simp only [hostMove] at h
    split at h <;> cases h
    exact { hinv with
      fLow := (rfl : (0 : Byte) &&& 0x0F = 0)
      delay := (by decide : (0 : Fin 3) ≠ 2) }

/-- Settles O19: the launch, the three moves, and what the two injections store. -/
theorem hostKeepsInvariant : Obligations.HostKeepsInvariant := by
  refine ⟨fun cfg img s h => ?_, fun m s t => hostMove_inv, fun s v => ⟨fun i => ?_, ?_⟩⟩
  · obtain ⟨hlen, hbank, rfl⟩ := launch_some h
    exact ⟨launched_inv hlen hbank, rfl⟩
  · exact ⟨_, rfl, stored_injectIo i v s, rfl⟩
  · exact ⟨_, rfl, stored_injectIe v s, rfl⟩

end Sys2Proof.Machine
end

section
/-! PROOFS. Power-on, launch and reset (10_state.md section 8, 70_reset_and_hazards.md section 1). -/

namespace Sys2Proof.Machine

variable {s : State}

/-- Empty storage reads as 0x00. -/
theorem busRead_empty {a : Word} (hmem : s.mem = []) (hie : s.ie = 0) (h : stored a) : busRead s a = .ok 0 := by
  by_cases ha : a.toNat = 0xFFFF
  · rw [busRead_ie ha, hie]
  · rw [busRead_mem h ha, hmem]; rfl

/-- Every register of a state whose registers are 0 reads as 0. -/
theorem reg_eq_zero (h : s.b = 0 ∧ s.c = 0 ∧ s.d = 0 ∧ s.e = 0 ∧ s.h = 0 ∧ s.l = 0 ∧ s.a = 0) (r : Reg8) :
    s.reg r = 0 := by
  obtain ⟨hb, hc, hd, he, hh, hl, ha⟩ := h
  cases r <;> assumption

/-- An image of zero bytes lists no byte. -/
theorem ofBytes_replicate_zero (i n : Nat) : Memory.ofBytes i (List.replicate n 0) = [] := by
  induction n generalizing i with
  | zero => rfl
  | succ n ih => rw [List.replicate_succ, Memory.ofBytes, if_pos rfl, ih]

/-- The power-on state is what a launch of the image of 0x8000 bytes 0x00 builds (log entry 1). -/
theorem launched_zeros : launched {} (List.replicate 0x8000 0) = State.reset := by
  have hheader : (List.replicate 0x8000 (0 : Byte)).getD 0x0147 0 = 0 := by
    rw [List.getD_eq_getElem?_getD, List.getElem?_replicate]
    rfl
  rw [launched, ofBytes_replicate_zero, List.length_replicate, hheader]
  rfl

/-- Settles O22: the power-on values, then `resetCore`. -/
theorem powerOnAndReset : Obligations.PowerOnAndReset := by
  refine ⟨⟨reg_eq_zero ⟨rfl, rfl, rfl, rfl, rfl, rfl, rfl⟩, rfl, rfl, rfl, rfl, rfl, rfl, rfl, rfl, rfl, rfl,
    fun a h => busRead_empty rfl rfl h, ?_⟩, fun s => ⟨fun hf => ?_, fun hf => ?_⟩⟩
  · rcases launch_cases {} (List.replicate 0x8000 0) with ⟨hrefused, -⟩ | ⟨-, -, hlaunch⟩
    · rw [List.length_replicate] at hrefused
      exact absurd hrefused (by decide)
    · rw [hlaunch, launched_zeros]
  · refine ⟨resetCore s, ?_, reg_eq_zero ⟨rfl, rfl, rfl, rfl, rfl, rfl, rfl⟩, rfl, rfl, rfl, rfl, rfl, rfl, fun _ => rfl,
      rfl⟩
    rw [hostMove, hf]
    rfl
  · rw [hostMove, if_pos (Option.isSome_iff_ne_none.mpr hf)]

/-- The image reads back by index. -/
theorem launched_rom (cfg : Config) (img : List Byte) (n : Nat) :
    Memory.read (launched cfg img).rom n = img.getD n 0 := by
  have h := Memory.read_ofBytes 0 n img
  rwa [Nat.zero_add] at h

/-- The two windows of a launched machine: bank 0 below, the initial bank above. -/
theorem launched_windows (cfg : Config) (img : List Byte) (a : Word) :
    (a.toNat < 0x4000 → busRead (launched cfg img) a = .ok (img.getD a.toNat 0)) ∧
    (0x4000 ≤ a.toNat → a.toNat < 0x8000 →
      busRead (launched cfg img) a = .ok (img.getD (a.toNat - 0x4000 + cfg.initialRomBank * 0x4000) 0)) := by
  refine ⟨fun h => ?_, fun h1 h2 => ?_⟩
  · rw [busRead_rom0 _ (region_of_holds (r := .rom0) (Nat.le_of_lt_succ h)), launched_rom]
  · rw [busRead_romBank _ (region_of_holds (r := .romBank) ⟨h1, Nat.le_of_lt_succ h2⟩), launched_rom]
    rfl

/-- Settles O23: the two refusals, and the power-on state field by field. -/
theorem launchRefusesOrMapsImage : Obligations.LaunchRefusesOrMapsImage := by
  intro cfg img
  constructor
  · rcases launch_cases cfg img with ⟨hrefused, hnone⟩ | ⟨hlen, hbank, hsome⟩
    · exact iff_of_true hnone hrefused
    · exact iff_of_false (by rw [hsome]; exact nofun) (by omega)
  · intro s h
    obtain ⟨-, -, rfl⟩ := launch_some h
    have himage (n : Nat) := launched_rom cfg img n
    have hwindows (a : Word) := launched_windows cfg img a
    exact ⟨⟨rfl, rfl, himage⟩, fun a => ⟨(hwindows a).1, (hwindows a).2, busRead_empty rfl rfl⟩,
      ⟨reg_eq_zero ⟨rfl, rfl, rfl, rfl, rfl, rfl, rfl⟩, rfl, rfl, rfl, rfl, rfl, rfl, rfl, rfl, fun _ => rfl⟩,
      rfl, rfl, rfl, BitVec.toNat_ofNat .., BitVec.toNat_ofNat .., rfl, rfl, rfl⟩

end Sys2Proof.Machine
end

section
/-! PROOFS. The loads and the stack (41_load8.md, 42_load16_stack.md): each family of instructions is one of the shapes of
the model, and each shape does what its rule says. -/

namespace Sys2Proof.Machine

variable {s t : State}

/-! ## Loads of a register -/

theorem exec_ldReg (dst src : Reg8) (s : State) : exec (.ldReg dst src) s = ldRegReg dst src s := by
  cases dst <;> cases src <;> rfl

theorem exec_ldRegN (dst : Reg8) (n : Byte) (s : State) : exec (.ldRegN dst n) s = ldRegImm dst n s := by
  cases dst <;> rfl

/-- A register written and then put back leaves the state as it was. -/
@[simp] theorem setReg_restore (s : State) (r : Reg8) (v : Byte) : (s.setReg r v).setReg r (s.reg r) = s := by
  cases r <;> rfl

/-- Settles O36: both forms are one write of the destination. -/
theorem loadRegister : Obligations.LoadRegister := fun s dst src n =>
  ⟨⟨_, exec_ldReg dst src s, reg_setReg_same .., setReg_restore ..⟩,
    ⟨_, exec_ldRegN dst n s, reg_setReg_same .., setReg_restore ..⟩⟩

/-- Every load from memory is `ldRegFrom` with the address of its rule. -/
theorem exec_of_loads8 {i : Instr} {dst : Reg8} {a : Word} (h : Loads8 s i dst a) : exec i s = ldRegFrom dst a s := by
  cases h with
  | memHL => cases dst <;> rfl
  | memBC | memDE | memNn | high | highC => rfl

theorem ldRegFrom_ok {a : Word} {v : Byte} (dst : Reg8) (h : busRead s a = .ok v) :
    ldRegFrom dst a s = .next (s.setReg dst v) := by
  rw [ldRegFrom, memRead_ok h]; rfl

theorem ldRegFrom_error {a : Word} {k : FaultRecord} (dst : Reg8) (h : busRead s a = .error k) :
    ldRegFrom dst a s = .next { s with fault := some k } := by
  rw [ldRegFrom, memRead_error h]; rfl

/-- Settles O37: the read decides. -/
theorem loadFromMemory : Obligations.LoadFromMemory := by
  intro s i dst a h
  rw [exec_of_loads8 h]
  exact ⟨fun v hread => ⟨_, ldRegFrom_ok dst hread, reg_setReg_same .., setReg_restore ..⟩,
    fun k hread => ldRegFrom_error dst hread⟩

/-! ## Stores -/

/-- Every store is one bus write of the value at the address of its rule. -/
theorem exec_of_stores8 {i : Instr} {a : Word} {v : Byte} (h : Stores8 s i a v) :
    exec i s = .next (memWrite a v s).state := by
  cases h with
  | memHL r => cases r <;> rfl
  | memHLImm | memBC | memDE | memNn | high | highC => rfl

/-- LD (nn),SP is two bus writes, the second only if the first raised nothing (R251). -/
theorem exec_ldMemNnSP (nn : Word) (s : State) : exec (.ldMemNnSP nn) s = .next (match memWrite nn (loByte s.sp) s with
    | .ok _ u => (memWrite (nn + 1) (hiByte s.sp) u).state
    | .raised u => u) := by
  change (memWrite16 nn s.sp s).out = _
  rw [memWrite16]
  cases memWrite nn (loByte s.sp) s <;> rfl

/-- Settles O39: one bus write, and two for LD (nn),SP; what a bus write to storage does is its law. -/
theorem storeToMemory : Obligations.StoreToMemory := by
  refine ⟨fun s i a v h => ⟨fun ha => ?_, exec_of_stores8 h⟩, fun s nn => ⟨fun hlo hhi => ?_, exec_ldMemNnSP nn s⟩⟩
  · obtain ⟨t, hwrite, hstored, hframe⟩ := memWrite_stored ha v s
    exact ⟨t, by rw [exec_of_stores8 h, hwrite, Res.state_ok], hstored, hframe⟩
  · obtain ⟨u, hlow, hslow, hflow⟩ := memWrite_stored hlo (loByte s.sp) s
    obtain ⟨t, hhigh, hshigh, hfhigh⟩ := memWrite_stored hhi (hiByte s.sp) u
    refine ⟨u, t, ?_, hslow, hshigh, ?_⟩
    · rw [exec_ldMemNnSP, hlow]
      exact congrArg (fun r : Res Unit => Host.Outcome.next r.state) hhigh
    · calc { t with mem := s.mem, ie := s.ie }
        _ = { u with mem := s.mem, ie := s.ie } :=
          congrArg (fun x : State => { x with mem := s.mem, ie := s.ie }) hfhigh
        _ = s := hflow

/-! ## Loads and stores that step HL -/

theorem ldAStep_ok {v : Byte} (d : Word) (h : busRead s s.hl = .ok v) :
    ldAStep d s = .next ((s.setReg .a v).setHL (s.hl + d)) := by
  rw [ldAStep, memRead_ok h]; rfl

theorem ldAStep_error {k : FaultRecord} (d : Word) (h : busRead s s.hl = .error k) :
    ldAStep d s = .next { s with fault := some k } := by
  rw [ldAStep, memRead_error h]; rfl

theorem storeAStep_ok (d : Word) (h : memWrite s.hl s.a s = .ok () t) : storeAStep d s = .next (t.setHL (s.hl + d)) := by
  rw [storeAStep, h]; rfl

theorem storeAStep_raised (d : Word) (h : memWrite s.hl s.a s = .raised t) : storeAStep d s = .next t := by
  rw [storeAStep, h]; rfl

/-- To add -1 is to take one away. -/
theorem word_add_neg_one (w : Word) : w + (-1) = w - 1 := (BitVec.sub_eq_add_neg w 1).symm

theorem exec_ldMemHLDecA (s : State) : exec .ldMemHLDecA s = storeAStep (-1) s := rfl

theorem exec_ldAMemHLDec (s : State) : exec .ldAMemHLDec s = ldAStep (-1) s := rfl

/-- A step of HL after a store leaves what was stored. -/
theorem storeAStep_stored (d : Word) (h : stored s.hl) : ∃ t, storeAStep d s = .next t ∧ Stored s.hl s.a s t ∧
    t.hl = s.hl + d ∧ { t with mem := s.mem, ie := s.ie, h := s.h, l := s.l } = s := by
  obtain ⟨t, hwrite, ⟨hhere, hothers⟩, hframe⟩ := memWrite_stored h s.a s
  exact ⟨_, storeAStep_ok d hwrite, ⟨hhere, hothers⟩, setHL_hl ..,
    congrArg (fun x : State => { x with h := s.h, l := s.l }) hframe⟩

/-- Settles O38: a read or a write, then the step of HL, up or down. -/
theorem loadOrStoreAndStepHl : Obligations.LoadOrStoreAndStepHl := by
  intro s
  rw [exec_ldMemHLDecA, exec_ldAMemHLDec]
  simp only [← word_add_neg_one]
  exact ⟨fun v h => ⟨⟨_, ldAStep_ok 1 h, rfl, setHL_hl .., rfl⟩, ⟨_, ldAStep_ok (-1) h, rfl, setHL_hl .., rfl⟩⟩,
    fun k h => ⟨ldAStep_error 1 h, ldAStep_error (-1) h⟩, fun h => ⟨storeAStep_stored 1 h, storeAStep_stored (-1) h⟩,
    fun t h => ⟨storeAStep_raised 1 h, storeAStep_raised (-1) h⟩, fun t h => ⟨storeAStep_ok 1 h, storeAStep_ok (-1) h⟩⟩

/-! ## Pairs -/

theorem exec_ldPairNn (p : Pair) (nn : Word) (s : State) : exec (.ldPairNn p nn) s = .next (s.setPair p nn) := by
  cases p <;> rfl

theorem exec_incPair (p : Pair) (s : State) : exec (.incPair p) s = .next (s.setPair p (s.pair p + 1)) := by
  cases p <;> rfl

theorem exec_decPair (p : Pair) (s : State) : exec (.decPair p) s = .next (s.setPair p (s.pair p - 1)) := by
  cases p <;> rfl

/-- A pair reads back as it was written (R33). -/
@[simp] theorem pair_setPair_same (s : State) (p : Pair) (v : Word) : (s.setPair p v).pair p = v := by
  cases p with
  | bc | de | hl => exact wordOf_hi_lo v
  | sp => rfl

/-- Settles O40: each form is one write of the pair. -/
theorem pairLoadsAndSteps : Obligations.PairLoadsAndSteps := by
  intro s nn
  refine ⟨fun p i v h => ⟨s.setPair p v, ?_, pair_setPair_same s p v, ?_⟩, ⟨_, rfl, rfl, rfl⟩⟩
  · rcases h with ⟨rfl, rfl⟩ | ⟨rfl, rfl⟩ | ⟨rfl, rfl⟩
    · exact exec_ldPairNn p v s
    · exact exec_incPair p s
    · exact exec_decPair p s
  · cases p <;> rfl

/-! ## The stack -/

theorem exec_push (p : StackPair) (s : State) : exec (.push p) s = .next (pushWrites (s.stackPair p) s).state := by
  rw [← push16_eq]
  cases p <;> rfl

theorem exec_pop (p : StackPair) (s : State) : exec (.pop p) s = popPair p s := by
  cases p <;> rfl

/-- Settles O41: `push16` and `pop16`, and the halves of the pair popped. -/
theorem pushAndPop : Obligations.PushAndPop := by
  intro s p
  refine ⟨fun hlo hhi => ?_, exec_push p s, fun lo hi hlo hhi => ?_, fun k h => ?_⟩
  · obtain ⟨t, hpush, hpushed, hframe⟩ := push16_stored (s.stackPair p) hlo hhi
    rw [push16_eq] at hpush
    exact ⟨t, by rw [exec_push, hpush, Res.state_ok], hpushed, hframe⟩
  · refine ⟨({ s with sp := s.sp + 2 } : State).setStackPair p (wordOf hi lo), ?_, setStackPair_sp .., ?_⟩
    · rw [exec_pop, popPair, pop16_ok hlo hhi]; rfl
    · cases p with
      | bc | de | hl => exact ⟨hiByte_wordOf hi lo, loByte_wordOf hi lo, rfl⟩
      | af => exact ⟨hiByte_wordOf hi lo, congrArg (· &&& 0xF0) (loByte_wordOf hi lo), rfl⟩
  · rw [exec_pop, popPair, pop16_error h]; rfl

end Sys2Proof.Machine
end

section
/-! PROOFS. Arithmetic (40_engine.md section 3, section 5 and section 6, 43_alu8.md): the sums with carry, the steps of a
register, decimal adjust, the complements, and SP plus a displacement. -/

namespace Sys2Proof.Machine

variable {s : State}

/-! ## ADC and SBC -/

theorem bit01_le_one (b : Bool) : bit01 b ≤ 1 := by cases b <;> decide

/-- The 8-bit difference with borrow, in numbers. -/
theorem toNat_sbc8 (a v : Byte) (cy : Bool) :
    (sbc8 a v cy).1.toNat = (a.toNat + 512 - v.toNat - bit01 cy) % 256 := by
  have hv := v.isLt
  have hcy := bit01_le_one cy
  rw [sbc8, BitVec.toNat_ofInt]
  omega

/-- Settles O43: A and the flags become those of `adc8` and `sbc8`, whatever the operand. -/
theorem addAndSubtractWithCarry : Obligations.AddAndSubtractWithCarry := by
  rintro s i v cy rfl
  constructor <;> intro h
  · refine ⟨aluApply .adc v s, exec_of_aluOperand h, BitVec.toNat_ofNat .., ?_⟩
    rw [aluApply_flags, aluApply_a]
    exact ⟨rfl, rfl, rfl, rfl, aluApply_frame .adc v s⟩
  · refine ⟨aluApply .sbc v s, exec_of_aluOperand h, toNat_sbc8 s.a v s.flags.c, ?_⟩
    rw [aluApply_flags, aluApply_a]
    exact ⟨rfl, rfl, rfl, rfl, aluApply_frame .sbc v s⟩

/-! ## A register replaced, and the flags set -/

/-- What a primitive that replaces a register and sets the flags leaves. -/
def replaced (s : State) (r : Reg8) (res : Byte × Flags) : State := (s.setFlags res.2).setReg r res.1

theorem modifyWithFlags_reg (r : Reg8) (f : Byte → Bool → Byte × Flags) (s : State) :
    (modifyWithFlags (.reg r) f s).out = .next (replaced s r (f (s.reg r) s.flags.c)) := rfl

@[simp] theorem replaced_reg (s : State) (r : Reg8) (res : Byte × Flags) : (replaced s r res).reg r = res.1 :=
  reg_setReg_same ..

@[simp] theorem replaced_flags (s : State) (r : Reg8) (res : Byte × Flags) : (replaced s r res).flags = res.2 := by
  rw [replaced, setReg_flags, setFlags_flags]

/-- It writes the register and F alone, F with its low nibble clear (R32). -/
theorem replaced_frame (s : State) (r : Reg8) (res : Byte × Flags) :
    (replaced s r res).f &&& 0x0F = 0 ∧ { (replaced s r res).setReg r (s.reg r) with f := s.f } = s := by
  refine ⟨?_, by cases r <;> rfl⟩
  rw [replaced, setReg_f]
  exact setFlags_low s _

theorem exec_incReg (r : Reg8) (s : State) :
    exec (.incReg r) s = .next (replaced s r (inc8 (s.reg r) s.flags.c)) := by
  cases r <;> rfl

theorem exec_decReg (r : Reg8) (s : State) :
    exec (.decReg r) s = .next (replaced s r (dec8 (s.reg r) s.flags.c)) := by
  cases r <;> rfl

/-- One down with wrap, in numbers. -/
theorem toNat_dec8 (v : Byte) (cy : Bool) : (dec8 v cy).1.toNat = (v.toNat + 255) % 256 := by
  show (v - 1).toNat = _
  rw [BitVec.toNat_sub, Nat.add_comm]
  rfl

/-- Settles O46: the register and the flags become those of `inc8` and `dec8`. -/
theorem incrementAndDecrement : Obligations.IncrementAndDecrement := by
  intro s r
  refine ⟨⟨_, exec_incReg r s, ?_⟩, ⟨_, exec_decReg r s, ?_⟩⟩ <;> rw [replaced_reg, replaced_flags]
  · exact ⟨BitVec.toNat_add .., rfl, rfl, rfl, rfl, replaced_frame ..⟩
  · exact ⟨toNat_dec8 .., rfl, rfl, rfl, rfl, replaced_frame ..⟩

/-! ## Decimal adjust -/

theorem exec_daa (s : State) : exec .daa s = .next (replaced s .a (daa8 s.a s.flags)) := rfl

/-- DAA after an addition corrects upward: by 0x60 on a carry or above 0x99, by 0x06 on a half carry or a low nibble above
9 (R203). -/
theorem daa8_add {fl : Flags} (a : Byte) (hn : fl.n = false) {a1 a2 : Nat}
    (h1 : a1 = if fl.c = true ∨ 0x99 < a.toNat then a.toNat + 0x60 else a.toNat)
    (h2 : a2 = if fl.h = true ∨ 9 < a.toNat % 16 then a1 + 0x06 else a1) :
    (daa8 a fl).1.toNat = a2 % 256 ∧ (daa8 a fl).2.c = (fl.c || decide (0x99 < a.toNat)) := by
  subst h1 h2
  refine ⟨?_, by simp only [daa8, hn, Bool.not_false, Bool.true_and, gt_iff_lt]⟩
  simp only [daa8, hn, Bool.not_false, Bool.true_and, Bool.or_eq_true, decide_eq_true_eq, Bool.false_eq_true, if_false,
    gt_iff_lt, BitVec.toNat_ofInt]
  split_ifs <;> omega

/-- DAA after a subtraction corrects downward, by the flags alone (R203). -/
theorem daa8_sub {fl : Flags} (a : Byte) (hn : fl.n = true) {a1 a2 : Int}
    (h1 : a1 = if fl.c = true then (a.toNat : Int) - 0x60 else a.toNat)
    (h2 : a2 = if fl.h = true then a1 - 0x06 else a1) :
    ((daa8 a fl).1.toNat : Int) = a2 % 256 ∧ (daa8 a fl).2.c = fl.c := by
  subst h1 h2
  refine ⟨?_, by simp only [daa8, hn, Bool.not_true, Bool.false_and, Bool.or_false]⟩
  simp only [daa8, hn, Bool.not_true, Bool.false_and, Bool.or_false, if_true, BitVec.toNat_ofInt]
  split_ifs <;> omega

/-- Settles O48: A and the flags become those of `daa8`, whose correction goes up or down by N. -/
theorem decimalAdjust : Obligations.DecimalAdjust := by
  intro s
  refine ⟨_, exec_daa s, ?_⟩
  rw [replaced_flags, show (replaced s .a (daa8 s.a s.flags)).a = (daa8 s.a s.flags).1 from rfl]
  exact ⟨fun hn a1 a2 h1 h2 => daa8_add s.a hn h1 h2, fun hn a1 a2 h1 h2 => daa8_sub s.a hn h1 h2, rfl, rfl, rfl,
    replaced_frame s .a _⟩

/-! ## Decimal arithmetic -/

section

variable {x1 x0 y1 y0 cy : Nat} (hx1 : x1 ≤ 9) (hx0 : x0 ≤ 9) (hy1 : y1 ≤ 9) (hy0 : y0 ≤ 9) (hcy : cy ≤ 1)
include hx1 hx0 hy1 hy0 hcy

/-- The two digits of a decimal sum, with the carry out of each. -/
theorem exists_digits_of_sum : ∃ r1 r0 c1 c0, r1 ≤ 9 ∧ r0 ≤ 9 ∧ (c1 = 0 ∨ c1 = 1) ∧ (c0 = 0 ∨ c0 = 1) ∧
    x0 + y0 + cy = 10 * c0 + r0 ∧ x1 + y1 + c0 = 10 * c1 + r1 :=
  ⟨(x1 + y1 + (x0 + y0 + cy) / 10) % 10, (x0 + y0 + cy) % 10, (x1 + y1 + (x0 + y0 + cy) / 10) / 10, (x0 + y0 + cy) / 10,
    by omega, by omega, by omega, by omega, by omega, by omega⟩

/-- The two digits of a decimal difference, with the borrow of each. -/
theorem exists_digits_of_difference : ∃ r1 r0 c1 c0, r1 ≤ 9 ∧ r0 ≤ 9 ∧ (c1 = 0 ∨ c1 = 1) ∧ (c0 = 0 ∨ c0 = 1) ∧
    x0 + 10 * c0 = y0 + cy + r0 ∧ x1 + 10 * c1 = y1 + c0 + r1 := by
  have hlow : ∃ r0 c0, r0 ≤ 9 ∧ (c0 = 0 ∨ c0 = 1) ∧ x0 + 10 * c0 = y0 + cy + r0 := by
    rcases Nat.lt_or_ge x0 (y0 + cy) with h | h
    · exact ⟨x0 + 10 - (y0 + cy), 1, by omega, .inr rfl, by omega⟩
    · exact ⟨x0 - (y0 + cy), 0, by omega, .inl rfl, by omega⟩
  obtain ⟨r0, c0, hr0, hc0, hlow⟩ := hlow
  rcases Nat.lt_or_ge x1 (y1 + c0) with h | h
  · exact ⟨x1 + 10 - (y1 + c0), r0, 1, c0, by omega, hr0, .inr rfl, hc0, hlow, by omega⟩
  · exact ⟨x1 - (y1 + c0), r0, 0, c0, by omega, hr0, .inl rfl, hc0, hlow, by omega⟩

/-- The sum of two packed decimal bytes, corrected as DAA does, is the packed decimal sum: each correction is due exactly
where its digit carries. -/
theorem decimal_sum : ∃ r1 r0, r1 ≤ 9 ∧ r0 ≤ 9 ∧ r1 * 10 + r0 = (x1 * 10 + x0 + (y1 * 10 + y0) + cy) % 100 ∧
    ∀ b a1 a2 : Nat, b = (x1 * 16 + x0 + (y1 * 16 + y0) + cy) % 256 →
      a1 = (if 255 < x1 * 16 + x0 + (y1 * 16 + y0) + cy ∨ 0x99 < b then b + 0x60 else b) →
      a2 = (if 15 < x0 + y0 + cy ∨ 9 < b % 16 then a1 + 0x06 else a1) →
      a2 % 256 = r1 * 16 + r0 ∧
        (255 < x1 * 16 + x0 + (y1 * 16 + y0) + cy ∨ 0x99 < b ↔ 100 ≤ x1 * 10 + x0 + (y1 * 10 + y0) + cy) := by
  obtain ⟨r1, r0, c1, c0, hr1, hr0, hc1, hc0, hlow, hhigh⟩ := exists_digits_of_sum hx1 hx0 hy1 hy0 hcy
  refine ⟨r1, r0, hr1, hr0, by omega, fun b a1 a2 hb h1 h2 => ?_⟩
  have hhighStep : a1 = b + 0x60 * c1 := by
    rcases hc1 with rfl | rfl <;> split_ifs at h1 <;> omega
  have hlowStep : a2 = a1 + 0x06 * c0 := by
    rcases hc0 with rfl | rfl <;> split_ifs at h2 <;> omega
  rcases hc1 with rfl | rfl <;> omega

/-- The difference of two packed decimal bytes, corrected as DAA does, is the packed decimal difference: each correction is
due exactly where its digit borrows. -/
theorem decimal_difference : ∃ r1 r0, r1 ≤ 9 ∧ r0 ≤ 9 ∧
    r1 * 10 + r0 = (x1 * 10 + x0 + 100 - (y1 * 10 + y0) - cy) % 100 ∧
    ∀ (b : Nat) (a1 a2 : Int), b = (x1 * 16 + x0 + 512 - (y1 * 16 + y0) - cy) % 256 →
      a1 = (if x1 * 16 + x0 < y1 * 16 + y0 + cy then (b : Int) - 0x60 else b) →
      a2 = (if x0 < y0 + cy then a1 - 0x06 else a1) →
      a2 % 256 = ((r1 * 16 + r0 : Nat) : Int) ∧
        (x1 * 16 + x0 < y1 * 16 + y0 + cy ↔ x1 * 10 + x0 < y1 * 10 + y0 + cy) := by
  obtain ⟨r1, r0, c1, c0, hr1, hr0, hc1, hc0, hlow, hhigh⟩ := exists_digits_of_difference hx1 hx0 hy1 hy0 hcy
  refine ⟨r1, r0, hr1, hr0, by omega, fun b a1 a2 hb h1 h2 => ?_⟩
  have hhighStep : a1 = b - 0x60 * c1 := by
    rcases hc1 with rfl | rfl <;> split_ifs at h1 <;> omega
  have hlowStep : a2 = a1 - 0x06 * c0 := by
    rcases hc0 with rfl | rfl <;> split_ifs at h2 <;> omega
  rcases hc1 with rfl | rfl <;> omega

end

/-- Settles O49: ADC and SBC give the binary result with the carries of its nibbles, and DAA corrects it. -/
theorem decimalArithmetic : Obligations.DecimalArithmetic := by
  intro s x1 x0 y1 y0 cy hx1 hx0 hy1 hy0 hx hcy
  have hcy1 : cy ≤ 1 := by rw [hcy]; exact bit01_le_one _
  have hn : (BitVec.ofNat 8 (y1 * 16 + y0)).toNat = y1 * 16 + y0 := by rw [BitVec.toNat_ofNat]; omega
  generalize BitVec.ofNat 8 (y1 * 16 + y0) = n at hn ⊢
  have hxlow : (x1 * 16 + x0) % 16 = x0 := by omega
  have hylow : (y1 * 16 + y0) % 16 = y0 := by omega
  constructor
  · obtain ⟨t, ht, hta, -, htn, hth, htc, -⟩ := (addAndSubtractWithCarry s (.adcAN n) n cy hcy).1 (.imm n)
    obtain ⟨u, hu, hadd, -⟩ := decimalAdjust t
    obtain ⟨hua, huc⟩ := hadd htn _ _ rfl rfl
    simp only [hth, htc, hx, hn, hxlow, hylow, decide_eq_true_eq] at hta hua huc
    obtain ⟨r1, r0, hr1, hr0, hr, hsum⟩ := decimal_sum hx1 hx0 hy1 hy0 hcy1
    obtain ⟨hbcd, hcarry⟩ := hsum _ _ _ hta rfl rfl
    refine ⟨t, u, ht, hu, r1, r0, hr1, hr0, hua.trans hbcd, hr, ?_⟩
    rw [huc, ← Bool.decide_or, decide_eq_decide]
    exact hcarry
  · obtain ⟨t, ht, hta, -, htn, hth, htc, -⟩ := (addAndSubtractWithCarry s (.sbcAN n) n cy hcy).2 (.imm n)
    obtain ⟨u, hu, -, hsub, -⟩ := decimalAdjust t
    obtain ⟨hua, huc⟩ := hsub htn _ _ rfl rfl
    simp only [hth, htc, hx, hn, hxlow, hylow, decide_eq_true_eq] at hta hua huc
    obtain ⟨r1, r0, hr1, hr0, hr, hdifference⟩ := decimal_difference hx1 hx0 hy1 hy0 hcy1
    obtain ⟨hbcd, hborrow⟩ := hdifference _ _ _ hta rfl rfl
    refine ⟨t, u, ht, hu, r1, r0, hr1, hr0, Int.ofNat.inj (hua.trans hbcd), hr, ?_⟩
    rw [huc, decide_eq_decide]
    exact hborrow

/-! ## The complements -/

@[simp] theorem setFlag_flags (s : State) (w : Flag) (v : Bool) : (s.setFlag w v).flags = s.flags.set w v :=
  setFlags_flags ..

/-- The complement of a byte, in numbers. -/
theorem toNat_complement (v : Byte) : (~~~v).toNat = 255 - v.toNat := BitVec.toNat_not

theorem exec_cpl (s : State) : exec .cpl s = .next (((s.setReg .a (~~~s.a)).setFlag .n true).setFlag .h true) := rfl

theorem exec_scf (s : State) : exec .scf s = .next (((s.setFlag .n false).setFlag .h false).setFlag .c true) := rfl

theorem exec_ccf (s : State) :
    exec .ccf s = .next (((s.setFlag .n false).setFlag .h false).setFlag .c (!s.flags.c)) := rfl

/-- Settles O50: three writes of flags each, CPL after the complement of A. -/
theorem complementAndCarryFlag : Obligations.ComplementAndCarryFlag := by
  intro s
  refine ⟨⟨_, exec_cpl s, toNat_complement s.a, ?_, setFlags_low .., rfl⟩, ⟨_, exec_scf s, ?_, setFlags_low .., rfl⟩,
    ⟨_, exec_ccf s, ?_, setFlags_low .., rfl⟩⟩ <;> simp only [setFlag_flags, setReg_flags, Flags.set]

/-! ## SP plus a displacement -/

/-- A signed displacement added in 16 bits is the integer sum, cut to 16 bits. -/
theorem add_sext16 (w : Word) (e : Byte) : w + sext16 e = BitVec.ofInt 16 (w.toNat + e.toInt) := by
  rw [BitVec.ofInt_add, BitVec.ofInt_natCast, BitVec.ofNat_toNat, BitVec.setWidth_eq]
  rfl

/-- The same, in numbers. -/
theorem toNat_addSpE (sp : Word) (e : Byte) : ((addSpE sp e).1.toNat : Int) = (sp.toNat + e.toInt) % 65536 := by
  show ((sp + sext16 e).toNat : Int) = _
  rw [add_sext16, BitVec.toNat_ofInt, Int.toNat_of_nonneg (Int.emod_nonneg _ (by decide))]
  rfl

theorem exec_addSPE8 (e : Byte) (s : State) :
    exec (.addSPE8 e) s = .next { s.setFlags (addSpE s.sp e).2 with sp := (addSpE s.sp e).1 } := rfl

theorem exec_ldHLSPE8 (e : Byte) (s : State) :
    exec (.ldHLSPE8 e) s = .next ((s.setFlags (addSpE s.sp e).2).setHL (addSpE s.sp e).1) := rfl

/-- Settles O52: the sum and the flags of `addSpE`, put into SP or HL. -/
theorem spPlusDisplacement : Obligations.SpPlusDisplacement := by
  intro s e
  refine ⟨⟨_, exec_addSPE8 e s, toNat_addSpE s.sp e, ?_⟩, ⟨_, exec_ldHLSPE8 e s, ?_, ?_⟩⟩
  · rw [show ({ s.setFlags (addSpE s.sp e).2 with sp := (addSpE s.sp e).1 } : State).flags = (addSpE s.sp e).2 from
      setFlags_flags s _]
    exact ⟨rfl, rfl, rfl, rfl, setFlags_low s _, rfl⟩
  · rw [setHL_hl]; exact toNat_addSpE s.sp e
  · rw [setHL_flags, setFlags_flags]
    exact ⟨rfl, rfl, rfl, rfl, setFlags_low s _, rfl⟩

end Sys2Proof.Machine
end

section
/-! PROOFS. Rotates, shifts and bits (40_engine.md section 4 and section 7, 45_rotate_shift.md, 46_bit.md), and the
read-modify-write of the byte at HL. -/

namespace Sys2Proof.Machine

variable {s : State}

/-! ## The rotates bit by bit -/

/-- A bit as a byte has that bit at 0 and no other. -/
theorem getLsbD_bitByte (b : Bool) (j : Nat) : (bitByte b).getLsbD j = (decide (j = 0) && b) := by
  cases b
  · rw [Bool.and_false]; exact BitVec.getLsbD_zero
  · rw [Bool.and_true]; exact BitVec.getLsbD_one.trans (Bool.true_and _)

/-- A rotate to the left through a carry. -/
theorem getLsbD_rl8 (v : Byte) (cy : Bool) {j : Nat} (h : j < 8) :
    (rl8 v cy).1.getLsbD j = if j = 0 then cy else v.getLsbD (j - 1) := by
  show (v <<< 1 ||| bitByte cy).getLsbD j = _
  rw [BitVec.getLsbD_or, BitVec.getLsbD_shiftLeft, getLsbD_bitByte]
  by_cases hj : j = 0
  · subst hj; simp
  · simp [hj, h]

/-- A rotate to the right through a carry. -/
theorem getLsbD_rr8 (v : Byte) (cy : Bool) {j : Nat} (h : j < 8) :
    (rr8 v cy).1.getLsbD j = if j = 7 then cy else v.getLsbD (j + 1) := by
  show (v >>> 1 ||| bitByte cy <<< 7).getLsbD j = _
  rw [BitVec.getLsbD_or, BitVec.getLsbD_ushiftRight, BitVec.getLsbD_shiftLeft, getLsbD_bitByte, Nat.add_comm]
  by_cases hj : j = 7
  · subst hj; simp
  · have hlow : j < 7 := by omega
    simp [hj, hlow]

/-- SWAP exchanges the nibbles. -/
theorem getLsbD_swap8 (v : Byte) {j : Nat} (h : j < 8) : (swap8 v).1.getLsbD j = v.getLsbD ((j + 4) % 8) := by
  show (v <<< 4 ||| v >>> 4).getLsbD j = _
  rw [BitVec.getLsbD_or, BitVec.getLsbD_shiftLeft, BitVec.getLsbD_ushiftRight]
  rcases Nat.lt_or_ge j 4 with hj | hj
  · rw [Nat.mod_eq_of_lt (by omega), Nat.add_comm]
    simp [hj]
  · rw [show (j + 4) % 8 = j - 4 by omega, BitVec.getLsbD_of_ge v (4 + j) (by omega)]
    simp [h, Nat.not_lt.mpr hj]

/-- SLA is the rotate with no carry coming in. -/
theorem sla8_eq (v : Byte) : sla8 v = rl8 v false := by
  rw [sla8, rl8, bitByte, if_neg Bool.false_ne_true, show v <<< 1 ||| (0 : Byte) = v <<< 1 from BitVec.or_zero]

/-- SRL is the rotate with no carry coming in. -/
theorem srl8_eq (v : Byte) : srl8 v = rr8 v false := by
  rw [srl8, rr8, bitByte, if_neg Bool.false_ne_true, show v >>> 1 ||| (0 : Byte) <<< 7 = v >>> 1 from BitVec.or_zero]

/-- SRA is the rotate with bit 7 coming in. -/
theorem sra8_eq (v : Byte) : sra8 v = rr8 v (v.getLsbD 7) := by
  have hmask : v &&& (0x80 : Byte) = bitByte (v.getLsbD 7) <<< 7 := by
    ext j hj
    interval_cases j <;> cases hv : v.getLsbD 7 <;> simp_all [bitByte]
  rw [sra8, rr8, hmask]

/-- Every rotate and shift is its rule, bit by bit: RLC and SLA are RL, and RRC, SRA and SRL are RR, with another bit coming
in (R191-R198). -/
theorem getLsbD_rot8 (k : RotOp) (v : Byte) (cy : Bool) {j : Nat} (h : j < 8) :
    (rot8 k v cy).1.getLsbD j = rotatedBit k v cy j := by
  cases k
  case rlc =>
    refine (getLsbD_rl8 v (v.getLsbD 7) h).trans ?_
    split_ifs with hj
    · rw [hj]; rfl
    · exact congrArg v.getLsbD (by omega)
  case rrc =>
    refine (getLsbD_rr8 v (v.getLsbD 0) h).trans ?_
    split_ifs with hj
    · rw [hj]; rfl
    · exact congrArg v.getLsbD (by omega)
  case rl => exact getLsbD_rl8 v cy h
  case rr => exact getLsbD_rr8 v cy h
  case sla => rw [rot8, sla8_eq]; exact getLsbD_rl8 v false h
  case sra => rw [rot8, sra8_eq]; exact getLsbD_rr8 v _ h
  case swap => exact getLsbD_swap8 v h
  case srl => rw [rot8, srl8_eq]; exact getLsbD_rr8 v false h

/-- The flags of a rotate or shift: Z from the result, C the bit shifted out. -/
theorem rot8_flags (k : RotOp) (v : Byte) (cy : Bool) :
    (rot8 k v cy).2 = { z := decide ((rot8 k v cy).1 = 0), n := false, h := false, c := rotatedOut k v } := by
  cases k <;> rfl

theorem exec_rotReg (k : RotOp) (r : Reg8) (s : State) :
    exec (.rotReg k r) s = .next (replaced s r (rot8 k (s.reg r) s.flags.c)) := by
  cases k <;> cases r <;> rfl

/-- Settles O53: the register and the flags become those of `rot8`. -/
theorem rotateRegister : Obligations.RotateRegister := by
  intro s k r
  refine ⟨_, exec_rotReg k r s, ?_⟩
  rw [replaced_reg, replaced_flags]
  exact ⟨fun j h => getLsbD_rot8 k _ _ h, rot8_flags k _ _, replaced_frame ..⟩

/-- The rotates of A replace A as the CB forms do, with Z clear (R205). -/
theorem rotateA_eq (k : RotOp) (s : State) : rotateA k s = .next (replaced s .a (rotA8 k s.a s.flags.c)) := rfl

/-- Settles O54: A and the flags become those of `rotA8`. -/
theorem rotateAccumulator : Obligations.RotateAccumulator := by
  intro s i k h
  have hexec : exec i s = rotateA k s := by
    rcases h with ⟨rfl, rfl⟩ | ⟨rfl, rfl⟩ | ⟨rfl, rfl⟩ | ⟨rfl, rfl⟩ <;> rfl
  refine ⟨_, hexec.trans (rotateA_eq k s), fun j hj => getLsbD_rot8 k s.a s.flags.c hj, ?_, replaced_frame s .a _⟩
  rw [replaced_flags, rotA8, rot8_flags]

/-! ## BIT, RES and SET -/

/-- The mask of a bit. -/
theorem getLsbD_one_shiftLeft (b : Fin 8) (j : Nat) : ((1 : Byte) <<< b.val).getLsbD j = decide (j = b.val) := by
  have h := BitVec.getLsbD_twoPow (w := 8) b.val j
  rw [BitVec.twoPow, decide_eq_true b.isLt, Bool.true_and] at h
  exact h.trans (decide_eq_decide.mpr eq_comm)

theorem getLsbD_res8 (b : Fin 8) (v : Byte) (j : Nat) : (res8 b v).getLsbD j = (decide (j ≠ b.val) && v.getLsbD j) := by
  rw [res8, BitVec.getLsbD_and, BitVec.getLsbD_not, getLsbD_one_shiftLeft]
  rcases Nat.lt_or_ge j 8 with h | h
  · simp only [h, decide_true, Bool.true_and, decide_not, Bool.and_comm]
  · rw [BitVec.getLsbD_of_ge v j h, Bool.false_and, Bool.and_false]

theorem getLsbD_set8 (b : Fin 8) (v : Byte) (j : Nat) : (set8 b v).getLsbD j = (decide (j = b.val) || v.getLsbD j) := by
  rw [set8, BitVec.getLsbD_or, getLsbD_one_shiftLeft, Bool.or_comm]

theorem exec_bitReg (b : Fin 8) (r : Reg8) (s : State) : exec (.bitReg b r) s = testBit b (.reg r) s := by
  fin_cases b <;> cases r <;> rfl

theorem exec_bitMemHL (b : Fin 8) (s : State) : exec (.bitMemHL b) s = testBit b .memHL s := by
  fin_cases b <;> rfl

theorem exec_resReg (b : Fin 8) (r : Reg8) (s : State) :
    exec (.resReg b r) s = .next (s.setReg r (res8 b (s.reg r))) := by
  fin_cases b <;> cases r <;> rfl

theorem exec_setReg (b : Fin 8) (r : Reg8) (s : State) :
    exec (.setReg b r) s = .next (s.setReg r (set8 b (s.reg r))) := by
  fin_cases b <;> cases r <;> rfl

/-- BIT sets the flags from the byte it reads, wherever it reads it. -/
theorem testBit_ok {o : Operand8} {v : Byte} (b : Fin 8) (h : readR o s = .ok v s) :
    testBit b o s = .next (s.setFlags (bit8 b v s.flags.c)) := by
  rw [testBit, h]; rfl

/-- Settles O55: BIT writes the flags alone, RES and SET the register alone. -/
theorem bitInstructions : Obligations.BitInstructions := by
  intro s b
  refine ⟨fun i v h => ⟨s.setFlags (bit8 b v s.flags.c), ?_, setFlags_flags .., setFlags_low .., rfl⟩, fun r =>
    ⟨⟨_, exec_resReg b r s, fun j => ?_, setReg_restore ..⟩, ⟨_, exec_setReg b r s, fun j => ?_, setReg_restore ..⟩⟩⟩
  · rcases h with ⟨r, rfl, rfl⟩ | ⟨rfl, hread⟩
    · rw [exec_bitReg, testBit_ok b rfl]
    · rw [exec_bitMemHL, testBit_ok (o := .memHL) b (memRead_ok hread)]
  · rw [reg_setReg_same]; exact getLsbD_res8 b _ j
  · rw [reg_setReg_same]; exact getLsbD_set8 b _ j

/-! ## Read-modify-write of the byte at HL -/

theorem exec_incMemHL (s : State) : exec .incMemHL s = (modifyWithFlags .memHL inc8 s).out := rfl

theorem exec_decMemHL (s : State) : exec .decMemHL s = (modifyWithFlags .memHL dec8 s).out := rfl

theorem exec_rotMemHL (k : RotOp) (s : State) : exec (.rotMemHL k) s = (modifyWithFlags .memHL (rot8 k) s).out := by
  cases k <;> rfl

theorem exec_resMemHL (b : Fin 8) (s : State) : exec (.resMemHL b) s = (modifyPlain .memHL (res8 b) s).out := by
  fin_cases b <;> rfl

theorem exec_setMemHL (b : Fin 8) (s : State) : exec (.setMemHL b) s = (modifyPlain .memHL (set8 b) s).out := by
  fin_cases b <;> rfl

/-- Read, set the flags, write back (R177; the order is log entry 5). -/
theorem modifyWithFlags_memHL {v : Byte} (f : Byte → Bool → Byte × Flags) (h : busRead s s.hl = .ok v) :
    modifyWithFlags .memHL f s = memWrite s.hl (f v s.flags.c).1 (s.setFlags (f v s.flags.c).2) := by
  rw [modifyWithFlags, readR, memRead_ok h]; rfl

/-- Read and write back, no flag set. -/
theorem modifyPlain_memHL {v : Byte} (f : Byte → Byte) (h : busRead s s.hl = .ok v) :
    modifyPlain .memHL f s = memWrite s.hl (f v) s := by
  rw [modifyPlain, readR, memRead_ok h]; rfl

theorem modifyWithFlags_error {k : FaultRecord} (f : Byte → Bool → Byte × Flags) (h : busRead s s.hl = .error k) :
    modifyWithFlags .memHL f s = .raised { s with fault := some k } := by
  rw [modifyWithFlags, readR, memRead_error h]; rfl

theorem modifyPlain_error {k : FaultRecord} (f : Byte → Byte) (h : busRead s s.hl = .error k) :
    modifyPlain .memHL f s = .raised { s with fault := some k } := by
  rw [modifyPlain, readR, memRead_error h]; rfl

/-- Every read-modify-write is one bus write of its result, its flags set before. -/
theorem exec_of_replaces {i : Instr} {v w : Byte} {fl : Option Flags} (hread : busRead s s.hl = .ok v)
    (h : Replaces s v w i fl) : exec i s = .next (memWrite s.hl w (s.withFlags fl)).state := by
  cases h with
  | inc hw =>
    obtain rfl : w = v + 1 := BitVec.eq_of_toNat_eq (hw.trans (BitVec.toNat_add v 1).symm)
    rw [exec_incMemHL, modifyWithFlags_memHL inc8 hread]; rfl
  | dec hw =>
    obtain rfl : w = v - 1 := BitVec.eq_of_toNat_eq (hw.trans (toNat_dec8 v s.flags.c).symm)
    rw [exec_decMemHL, modifyWithFlags_memHL dec8 hread]; rfl
  | rot k hw =>
    obtain rfl : w = (rot8 k v s.flags.c).1 :=
      BitVec.eq_of_getLsbD_eq fun j hj => (hw j hj).trans (getLsbD_rot8 k v _ hj).symm
    rw [exec_rotMemHL, modifyWithFlags_memHL (rot8 k) hread, rot8_flags]; rfl
  | res b hw =>
    obtain rfl : w = res8 b v := BitVec.eq_of_getLsbD_eq fun j _ => (hw j).trans (getLsbD_res8 b v j).symm
    rw [exec_resMemHL, modifyPlain_memHL (res8 b) hread]; rfl
  | set b hw =>
    obtain rfl : w = set8 b v := BitVec.eq_of_getLsbD_eq fun j _ => (hw j).trans (getLsbD_set8 b v j).symm
    rw [exec_setMemHL, modifyPlain_memHL (set8 b) hread]; rfl

/-- A byte stored after the flags were set is stored, and F holds those flags. -/
theorem memWrite_withFlags_stored {a : Word} (h : stored a) (w : Byte) (fl : Option Flags) (s : State) :
    ∃ t, memWrite a w (s.withFlags fl) = .ok () t ∧ Stored a w s t ∧ t.f = (s.withFlags fl).f ∧
      { t with mem := s.mem, ie := s.ie, f := s.f } = s := by
  obtain ⟨t, hwrite, ⟨hhere, hothers⟩, hframe⟩ := memWrite_stored h w (s.withFlags fl)
  have hf : t.f = (s.withFlags fl).f := (congrArg State.f hframe :)
  cases fl <;> exact ⟨t, hwrite, ⟨hhere, hothers⟩, hf, congrArg (fun x : State => { x with f := s.f }) hframe⟩

/-- Settles O47: one bus write with the flags set before it, and none where the read faults. -/
theorem modifyMemory : Obligations.ModifyMemory := by
  intro s
  refine ⟨fun i v w fl hread h => ⟨fun ha => ?_, exec_of_replaces hread h⟩,
    fun k hread => ⟨?_, fun r => ?_, fun b => ?_, fun op => ?_⟩⟩
  · obtain ⟨t, hwrite, hrest⟩ := memWrite_withFlags_stored ha w fl s
    exact ⟨t, by rw [exec_of_replaces hread h, hwrite, Res.state_ok], hrest⟩
  · simp only [List.forall_mem_cons, List.not_mem_nil, false_imp_iff, implies_true, exec_incMemHL, exec_decMemHL,
      modifyWithFlags_error _ hread, Res.out_raised, and_self]
  · rw [exec_rotMemHL, modifyWithFlags_error _ hread, Res.out_raised]
  · rw [exec_resMemHL, exec_setMemHL, exec_bitMemHL, modifyPlain_error _ hread, modifyPlain_error _ hread, testBit, readR,
      memRead_error hread]
    exact ⟨rfl, rfl, rfl⟩
  · rw [exec_aluMemHL, aluWith, readR, memRead_error hread]; rfl

end Sys2Proof.Machine
end

section
/-! PROOFS. Control transfer and CPU control (47_control.md, 48_cpu_control.md), and the row of the byte 0xCB
(30_encoding.md section 3). -/

namespace Sys2Proof.Machine

variable {s : State}

/-! ## Conditions -/

/-- The condition the machine tests is the one of the field (R135). -/
theorem cond_iff (cc : Cond) (s : State) : cond cc s = true ↔ condHolds s cc := by
  cases cc with
  | nz | nc => exact iff_of_eq (Bool.not_eq_true' _)
  | z | c => exact Iff.rfl

theorem cond_of_holds {cc : Cond} (h : condHolds s cc) : cond cc s = true := (cond_iff cc s).mpr h

theorem cond_of_not_holds {cc : Cond} (h : ¬ condHolds s cc) : cond cc s = false :=
  Bool.eq_false_iff.mpr fun hc => h ((cond_iff cc s).mp hc)

theorem exec_jpCond (cc : Cond) (nn : Word) (s : State) : exec (.jpCond cc nn) s = jumpIf (cond cc s) nn s := by
  cases cc <;> rfl

theorem exec_jrCond (cc : Cond) (e : Byte) (s : State) :
    exec (.jrCond cc e) s = jumpIf (cond cc s) (s.pc + sext16 e) s := by
  cases cc <;> rfl

theorem exec_callCond (cc : Cond) (nn : Word) (s : State) : exec (.callCond cc nn) s = callIf (cond cc s) nn s := by
  cases cc <;> rfl

theorem exec_retCond (cc : Cond) (s : State) : exec (.retCond cc) s = retIf (cond cc s) s := by
  cases cc <;> rfl

theorem exec_rst (n : Fin 8) (s : State) : exec (.rst n) s = callIf true (BitVec.ofNat 16 (8 * n.val)) s := by
  fin_cases n <;> rfl

/-! ## Jumps -/

theorem exec_jrE8 (e : Byte) (s : State) : exec (.jrE8 e) s = jumpIf true (s.pc + sext16 e) s := rfl

/-- Every jump that is taken is `jumpIf` with its target. -/
theorem exec_of_jumps {i : Instr} {target : Word} (h : Jumps s i target) : exec i s = jumpIf true target s := by
  cases h with
  | jp | jpHL => rfl
  | jpCond cc nn hcc => rw [exec_jpCond, cond_of_holds hcc]
  | jr e => rw [exec_jrE8, add_sext16]
  | jrCond cc e hcc => rw [exec_jrCond, cond_of_holds hcc, add_sext16]

/-- Settles O56: taken, a jump writes PC; not taken, none of the four forms does anything. -/
theorem jumpsAndUntaken : Obligations.JumpsAndUntaken := by
  intro s i
  refine ⟨fun target h => exec_of_jumps h, fun h => ?_⟩
  cases h with
  | jp cc nn hcc => rw [exec_jpCond, cond_of_not_holds hcc]; rfl
  | jr cc e hcc => rw [exec_jrCond, cond_of_not_holds hcc]; rfl
  | call cc nn hcc => rw [exec_callCond, cond_of_not_holds hcc]; rfl
  | ret cc hcc => rw [exec_retCond, cond_of_not_holds hcc]; rfl

/-! ## Calls and returns -/

/-- Every call that is made is `callIf` with its target. -/
theorem exec_of_calls {i : Instr} {target : Word} (h : Calls s i target) : exec i s = callIf true target s := by
  cases h with
  | call => rfl
  | callCond cc nn hcc => rw [exec_callCond, cond_of_holds hcc]
  | rst n => exact exec_rst n s

/-- A call is the two writes of its push, then the jump unless one of them raised. -/
theorem callIf_true (target : Word) (s : State) : callIf true target s = .next (match pushWrites s.pc s with
    | .ok _ t => { t with pc := target }
    | .raised t => t) := by
  rw [callIf, if_pos rfl, push16_eq]
  cases pushWrites s.pc s <;> rfl

/-- A call onto storage pushes the address after it and jumps. -/
theorem callIf_stored (target : Word) (hlo : stored (s.sp - 2)) (hhi : stored (s.sp - 1)) :
    ∃ t, callIf true target s = .next t ∧ Pushed s.pc s t ∧ t.pc = target ∧
      { t with sp := s.sp, pc := s.pc, mem := s.mem, ie := s.ie } = s := by
  obtain ⟨t, hpush, ⟨hsp, hlow, hhigh, hothers⟩, hframe⟩ := push16_stored s.pc hlo hhi
  refine ⟨{ t with pc := target }, ?_, ⟨hsp, hlow, hhigh, hothers⟩, rfl,
    congrArg (fun x : State => { x with pc := s.pc }) hframe⟩
  rw [callIf, if_pos rfl, hpush]
  rfl

/-- Every return that is made is `retIf`. -/
theorem exec_of_returns {i : Instr} (h : Returns s i) : exec i s = retIf true s := by
  cases h with
  | ret => rfl
  | retCond cc hcc => rw [exec_retCond, cond_of_holds hcc]

theorem retIf_ok {lo hi : Byte} (hl : busRead s s.sp = .ok lo) (hh : busRead s (s.sp + 1) = .ok hi) :
    retIf true s = .next { s with pc := wordOf hi lo, sp := s.sp + 2 } := by
  rw [retIf, if_pos rfl, pop16_ok hl hh]; rfl

theorem exec_reti (s : State) : exec .reti s = (returnFromInterrupt s).out := rfl

/-- Settles O57: a push, then the jump; a pop, then the jump, and RETI enables. -/
theorem callsAndReturns : Obligations.CallsAndReturns := by
  intro s
  refine ⟨fun i target h => ?_, fun lo hi hl hh => ⟨fun i h => ?_, ?_⟩, fun k h => ⟨fun i hi => ?_, ?_⟩⟩
  · rw [exec_of_calls h]
    exact ⟨callIf_stored target, callIf_true target s⟩
  · rw [exec_of_returns h, retIf_ok hl hh]
  · rw [exec_reti, returnFromInterrupt, pop16_ok hl hh]; rfl
  · rw [exec_of_returns hi, retIf, if_pos rfl, pop16_error h]; rfl
  · rw [exec_reti, returnFromInterrupt, pop16_error h]; rfl

/-! ## CPU control -/

theorem exec_halt (s : State) : exec .halt s = haltOrRaise s := rfl

/-- Settles O58: the four rules; HALT raises exactly where its three conditions meet. -/
theorem engineControl : Obligations.EngineControl := by
  intro s
  refine ⟨rfl, rfl, rfl, fun h => ?_, fun hon hime hp => ?_⟩
  · rw [exec_halt, haltOrRaise, if_neg]
    rintro ⟨hon, hime, hp⟩
    rcases h with h | h | h
    · exact Bool.false_ne_true (h.symm.trans hon)
    · exact Bool.false_ne_true (hime.symm.trans h)
    · exact hp h
  · rw [exec_halt, haltOrRaise, if_pos ⟨hon, hime, hp⟩, raise_out]

/-- The row of an illegal opcode raises for its byte (R385). -/
theorem exec_illegal (s : State) : ∀ row ∈ Instr.illegalRows, exec row.2 s = illegal row.1 s := by
  simp only [Instr.illegalRows, List.forall_mem_cons]
  exact ⟨rfl, rfl, rfl, rfl, rfl, rfl, rfl, rfl, rfl, rfl, rfl, nofun⟩

/-- The row of an illegal opcode stands at its byte and takes no other (R141). -/
theorem primaryRow_illegal : ∀ row ∈ Instr.illegalRows, primaryRow row.1 = .op row.2 := by
  simp only [Instr.illegalRows, List.forall_mem_cons]
  exact ⟨rfl, rfl, rfl, rfl, rfl, rfl, rfl, rfl, rfl, rfl, rfl, nofun⟩

/-- The fetch of an instruction of one byte. -/
theorem fetchInstr_op {op : Byte} {i : Instr} (hrow : primaryRow op = .op i) (h : busRead s s.pc = .ok op) :
    fetchInstr s = .ok i { s with pc := s.pc + 1 } := by
  rw [fetchInstr, fetch8_ok h, Res.andThen_ok, hrow]

/-- An instruction fetched and run, then its end. -/
theorem runInstruction_eq {i : Instr} {u v : State} (hfetch : fetchInstr s = .ok i u) (hx : exec i u = .next v) :
    runInstruction s = .next (endOfInstruction v) := by
  simp only [runInstruction, hfetch, hx]

/-- A fault is not undone by the end of the instruction (R419). -/
theorem endOfInstruction_of_fault {k : FaultRecord} (h : s.fault = some k) : endOfInstruction s = s := by
  rw [endOfInstruction, h]; rfl

/-- The step that fetches an illegal opcode records the byte and the address it was fetched from. -/
theorem step_illegal {row : Byte × Instr} (hrow : row ∈ Instr.illegalRows) (hf : s.fault = none)
    (hd : ¬ dispatchDue (wake s)) (hh : (wake s).halted = false) (hread : busRead s s.pc = .ok row.1) :
    step s = .next { wake s with pc := s.pc + 1, fault := some (.unimplementedOpcode row.1 s.pc) } := by
  have hfetch : fetchInstr (wake s) = .ok row.2 { wake s with pc := s.pc + 1 } := by
    have h := fetchInstr_op (s := wake s) (primaryRow_illegal row hrow) (by rwa [wake_pc, wake_busRead])
    rwa [wake_pc] at h
  have hx : exec row.2 { wake s with pc := s.pc + 1 } =
      .next { wake s with pc := s.pc + 1, fault := some (.unimplementedOpcode row.1 s.pc) } := by
    rw [exec_illegal _ row hrow, illegal, raise_out]
    simp only [BitVec.add_sub_cancel]
  rw [step_of_running hf (fun h => hd ((wake_dispatchDue s).mpr h)) hh, runInstruction_eq hfetch hx,
    endOfInstruction_of_fault rfl]

/-- Settles O59: STOP by its rule, the illegal opcodes by their rows, and the step by the fetch of the one byte. -/
theorem undefinedOpcodesRaise : Obligations.UndefinedOpcodesRaise := by
  intro s
  refine ⟨rfl, fun op i h => exec_illegal s (op, i) h, fun op hop hf hd hh hread => ?_⟩
  obtain ⟨row, hrow, rfl⟩ := List.mem_map.mp (show op ∈ Instr.illegalRows.map Prod.fst from hop)
  exact step_illegal hrow hf hd hh hread

/-! ## The byte 0xCB -/

/-- The instruction a second byte selects is the one its fields run (R140). -/
theorem exec_cbByFields (op2 : Byte) (s : State) : exec (cbByFields op2) s = (runCb op2 s).out := by
  unfold cbByFields runCb
  generalize fieldX op2 = x
  generalize operandOfField (fieldZ op2) = o
  match x, o with
  | 0, .reg r => exact exec_rotReg _ r s
  | 0, .memHL => exact exec_rotMemHL _ s
  | 1, .reg r => exact exec_bitReg _ r s
  | 1, .memHL => exact exec_bitMemHL _ s
  | 2, .reg r => exact exec_resReg _ r s
  | 2, .memHL => exact exec_resMemHL _ s
  | 3, .reg r => exact exec_setReg _ r s
  | 3, .memHL => exact exec_setMemHL _ s

theorem exec_prefixCb (s : State) : exec .prefixCb s = ((fetch8 s).andThen fun op2 t => runCb op2 t).out := rfl

/-- Settles O60: the fetch of the second byte, then the entry of its fields. -/
theorem prefixRunsSecondTable : Obligations.PrefixRunsSecondTable := by
  intro s
  rw [exec_prefixCb]
  refine ⟨fun op2 hread => ⟨_, ?_, exec_cbByFields op2 _⟩, fun k hread => ?_⟩
  · rw [fetch8_ok hread, Res.andThen_ok, Res.out_eq]
  · rw [fetch8_error hread, Res.andThen_raised, Res.out_raised]

end Sys2Proof.Machine
end

section
/-! PROOFS. What `cycle()` returns (70_reset_and_hazards.md section 3): the bounds of the cost table, the rows without a
cost, and the conditional rows. -/

namespace Sys2Proof.Machine

variable {s t : State}

/-! ## The cost of an opcode -/

/-- The entry gives costs of 1 to 6 M-cycles; those of the CB table have bounds of their own. -/
def Cost.priced : Cost → Bool
  | .fixed n => decide (1 ≤ n ∧ n ≤ 6)
  | .branch taken notTaken => decide ((1 ≤ taken ∧ taken ≤ 6) ∧ 1 ≤ notTaken ∧ notTaken ≤ 6)
  | .cb => true
  | .faults => false

set_option maxRecDepth 20000 in
/-- Every opcode byte has a price but STOP and the illegal ones (R470). -/
theorem costMap_priced (op : Byte) : (costMap.getD op.toNat .faults).priced = true ∨ op = 0x10 ∨
    op ∈ Instr.illegalRows.map Prod.fst := by
  obtain ⟨⟨n, hn⟩⟩ := op
  have h : ∀ k : Fin 256, (costMap.getD k.val .faults).priced = true ∨ (⟨k⟩ : Byte) = 0x10 ∨
      (⟨k⟩ : Byte) ∈ Instr.illegalRows.map Prod.fst := by decide
  exact h ⟨n, hn⟩

theorem cbCost_bounds (op2 : Byte) : 1 ≤ cbCost op2 ∧ cbCost op2 ≤ 6 := by
  unfold cbCost
  split
  · omega
  · split <;> omega

theorem opcodeCost_of_priced {op : Byte} (h : (costMap.getD op.toNat .faults).priced = true) (op2 : Byte) (s : State) :
    ∃ n, 1 ≤ n ∧ n ≤ 6 ∧ opcodeCost op op2 s = some n := by
  unfold opcodeCost
  cases hcost : costMap.getD op.toNat .faults with
  | fixed n =>
    rw [hcost, Cost.priced, decide_eq_true_eq] at h
    exact ⟨n, h.1, h.2, rfl⟩
  | branch taken notTaken =>
    rw [hcost, Cost.priced, decide_eq_true_eq] at h
    cases hcc : cond (condOfOpcode op) s
    · exact ⟨notTaken, h.2.1, h.2.2, rfl⟩
    · exact ⟨taken, h.1.1, h.1.2, rfl⟩
  | cb => exact ⟨_, (cbCost_bounds op2).1, (cbCost_bounds op2).2, rfl⟩
  | faults => rw [hcost] at h; cases h

/-! ## The cost of a step -/

theorem mCycles_eq (s : State) : mCycles s = if dispatchDue s then some dispatchCost
    else if (wake s).halted then some haltedTickCost
    else opcodeCost (peek (wake s) (wake s).pc) (peek (wake s) ((wake s).pc + 1)) (wake s) := by
  unfold mCycles
  simp only [wake_dispatchDue]

/-- A step that runs an instruction costs what its opcode does. -/
theorem mCycles_of_running {op : Byte} (hd : ¬ dispatchDue s) (hh : (wake s).halted = false)
    (hop : busRead s s.pc = .ok op) : ∃ op2, mCycles s = opcodeCost op op2 (wake s) := by
  have hpeek : peek (wake s) (wake s).pc = op := by rw [peek, wake_pc, wake_busRead, hop]
  exact ⟨_, by rw [mCycles_eq, if_neg hd, if_neg (Bool.eq_false_iff.mp hh), hpeek]⟩

/-- STOP and the illegal opcodes raise, so a step that raises nothing fetched another byte. -/
theorem exec_fault_of_unpriced {op : Byte} (hop : op = 0x10 ∨ op ∈ Instr.illegalRows.map Prod.fst) (b1 b2 : Byte)
    (hx : exec (decodeBytes op b1 b2) s = .next t) : t.fault ≠ none := by
  rcases hop with rfl | hop
  · cases hx; exact nofun
  · obtain ⟨row, hrow, rfl⟩ := List.mem_map.mp hop
    have hdecode : decodeBytes row.1 b1 b2 = row.2 := by rw [decodeBytes, primaryRow_illegal row hrow]
    rw [hdecode, exec_illegal s row hrow] at hx
    cases hx
    exact nofun

/-- A step that raises nothing has a cost of 1 to 6 M-cycles: 5 for a dispatch, 1 for a halted tick, and that of its opcode
for an instruction. -/
theorem mCycles_of_safe_step (h : step s = .next t) (hsafe : t.fault = none) :
    ∃ n, 1 ≤ n ∧ n ≤ 6 ∧ mCycles s = some n := by
  by_cases hd : dispatchDue s
  · exact ⟨dispatchCost, by decide, by decide, by rw [mCycles_eq, if_pos hd]⟩
  cases hh : (wake s).halted with
  | true => exact ⟨haltedTickCost, by decide, by decide, by rw [mCycles_eq, if_neg hd, if_pos hh]⟩
  | false =>
    obtain ⟨i, u, v, hfetch, hx, hv, -⟩ := step_runs_instruction h hsafe hd hh
    obtain ⟨op, b1, b2, _, hop, rfl, -⟩ := fetchInstr_ok hfetch
    rw [wake_pc, wake_busRead] at hop
    obtain ⟨op2, hcost⟩ := mCycles_of_running hd hh hop
    rw [hcost]
    rcases costMap_priced op with hpriced | hunpriced
    · exact opcodeCost_of_priced hpriced op2 (wake s)
    · exact absurd hv (exec_fault_of_unpriced hunpriced b1 b2 hx)

/-- Settles O20: the cost is that of the step, scaled. -/
theorem stepWithoutFaultReturnsCost : Obligations.StepWithoutFaultReturnsCost := by
  intro s t h hsafe
  obtain ⟨n, h1, h6, hcost⟩ := mCycles_of_safe_step h hsafe
  exact ⟨n, h1, h6, by simp only [cycleReturn, h, hsafe, hcost]⟩

/-! ## The conditional rows -/

/-- The row of an instruction that has the cost entry of a branch and tests the condition of its field. -/
def BranchRow (i : Instr) (cc : Cond) (taken notTaken : Nat) : Prop :=
  ∀ op, (encode i).head? = some op → costMap.getD op.toNat .faults = .branch taken notTaken ∧ condOfOpcode op = cc

theorem branchRow_jrCond (cc : Cond) (e : Byte) : BranchRow (.jrCond cc e) cc 3 2 := by
  cases cc <;> rintro _ ⟨⟩ <;> exact ⟨rfl, rfl⟩

theorem branchRow_jpCond (cc : Cond) (nn : Word) : BranchRow (.jpCond cc nn) cc 4 3 := by
  cases cc <;> rintro _ ⟨⟩ <;> exact ⟨rfl, rfl⟩

theorem branchRow_callCond (cc : Cond) (nn : Word) : BranchRow (.callCond cc nn) cc 6 3 := by
  cases cc <;> rintro _ ⟨⟩ <;> exact ⟨rfl, rfl⟩

theorem branchRow_retCond (cc : Cond) : BranchRow (.retCond cc) cc 5 2 := by
  cases cc <;> rintro _ ⟨⟩ <;> exact ⟨rfl, rfl⟩

/-- A conditional instruction at PC costs as its condition says (R471). -/
theorem mCycles_of_branch {i : Instr} {cc : Cond} {op b1 b2 : Byte} {taken notTaken : Nat} (hd : ¬ dispatchDue s)
    (hh : s.halted = false) (hop : busRead s s.pc = .ok op) (hi : decodeBytes op b1 b2 = i)
    (hrow : BranchRow i cc taken notTaken) :
    (condHolds s cc → mCycles s = some taken) ∧ (¬ condHolds s cc → mCycles s = some notTaken) := by
  obtain ⟨hcost, hcc⟩ := hrow op (hi ▸ encode_decodeBytes_head op b1 b2)
  have hw : wake s = s := wake_of_running hh
  obtain ⟨op2, hcycles⟩ := mCycles_of_running hd (by rw [hw, hh]) hop
  simp only [hcycles, hw, opcodeCost, hcost, hcc]
  exact ⟨fun h => by rw [if_pos (cond_of_holds h)],
    fun h => by rw [if_neg (Bool.eq_false_iff.mp (cond_of_not_holds h))]⟩

/-- Settles O21: the four families of rows. -/
theorem conditionDecidesCost : Obligations.ConditionDecidesCost := fun _ cc _ b1 b2 _ hd hh hop =>
  ⟨fun hi => mCycles_of_branch hd hh hop hi (branchRow_jrCond cc b1),
    fun hi => mCycles_of_branch hd hh hop hi (branchRow_jpCond cc (wordOf b2 b1)),
    fun hi => mCycles_of_branch hd hh hop hi (branchRow_callCond cc (wordOf b2 b1)),
    fun hi => mCycles_of_branch hd hh hop hi (branchRow_retCond cc)⟩

end Sys2Proof.Machine
end
